-- ==== Sys2Proof/Word.lean ====
section
/-! DEFINITION. The word types of the machine (00_scope.md R5, R6, R10; 10_state.md R20, R23).
Bit vectors of the widths the spec names, nothing else: every operation on them that a rule gives stands in
Sys2Proof/Machine/Alu.lean and Sys2Proof/Machine/Flags.lean. -/

namespace Sys2Proof

/-- One byte of program text (R51, R52). -/
abbrev Byte := BitVec 8

/-- One instruction word (R65): bit 31 is the most significant bit. -/
abbrev Word32 := BitVec 32

/-- A register number, bits 4:0 of a specifier field (R65). -/
abbrev RegNum := BitVec 5

/-- The contents of an `XLEN`-bit register, held in the low `XLEN` bits of 64 (R5: `XLEN` is 32 or 64; log 2). -/
abbrev XWord := BitVec 64

/-- The largest `VLEN` the spec allows (R6). -/
def maxVlen : Nat := 65536

/-- The contents of a vector register, held in the low `VLEN` bits of `maxVlen` (R6, R23; log 2). -/
abbrev VWord := BitVec maxVlen

end Sys2Proof
end

