-- ==== Sys2Proof/Machine/Flags.lean ====
section
/-! DEFINITION. The one-bit results (10_state.md R27): there is no flag register, so every carry, borrow and comparison
is a mask bit. `uint` and `sint` are the readings of 00_scope.md R10. -/

namespace Sys2Proof.Machine

/-- `uint(b)` (R10). -/
def uint {n : Nat} (b : BitVec n) : Int := (b.toNat : Int)

/-- `sint(b)` (R10). -/
def sint {n : Nat} (b : BitVec n) : Int := b.toInt

/-- A carry or borrow bit as a number (R181). -/
def bit (c : Bool) : Int := if c then 1 else 0

/-- `carry_out_N(z)` of the sum `z` of two `n`-bit operands and a carry-in (R13, R182). -/
def carryOut (n : Nat) (a b : BitVec n) (c : Bool) : Bool := decide ((2 : Int) ^ n ≤ uint a + uint b + bit c)

/-- `borrow_out(z)` of the difference `z` of two `n`-bit operands and a borrow-in (R13, R183). -/
def borrowOut (n : Nat) (a b : BitVec n) (c : Bool) : Bool := decide (uint a - uint b - bit c < 0)

/-- `vmseq` (R233 to R235): the bit patterns agree. -/
def cmpEq (n : Nat) (a b : BitVec n) : Bool := decide (a = b)

/-- `vmsne` (R236 to R238). -/
def cmpNe (n : Nat) (a b : BitVec n) : Bool := decide (a ≠ b)

/-- `vmsltu` (R239, R240). -/
def cmpLtu (n : Nat) (a b : BitVec n) : Bool := decide (uint a < uint b)

/-- `vmslt` (R241, R242). -/
def cmpLt (n : Nat) (a b : BitVec n) : Bool := decide (sint a < sint b)

/-- `vmsleu` (R243 to R245). -/
def cmpLeu (n : Nat) (a b : BitVec n) : Bool := decide (uint a ≤ uint b)

/-- `vmsle` (R246 to R248). -/
def cmpLe (n : Nat) (a b : BitVec n) : Bool := decide (sint a ≤ sint b)

/-- `vmsgtu` (R249, R250). -/
def cmpGtu (n : Nat) (a b : BitVec n) : Bool := decide (uint b < uint a)

/-- `vmsgt` (R251, R252). -/
def cmpGt (n : Nat) (a b : BitVec n) : Bool := decide (sint b < sint a)

end Sys2Proof.Machine
end

