-- ==== Sys2Proof/Machine/Alu.lean ====
section
/-! DEFINITION. The per-element functions `f(i)` of the families (41_add_sub.md to 48_merge_move.md), in the spec's own
arithmetic: the operands are read as integers, the result is computed exactly, and `trunc` narrows it (00_scope.md R10,
R13). In every function `a` is the `vs2` element, `b` the second operand, `d` the old destination element, and `n` is
`SEW`. -/

namespace Sys2Proof.Machine

/-- `trunc_N(z)` (R10). -/
def trunc (n : Nat) (z : Int) : BitVec n := BitVec.ofInt n z

/-- `mulhi_N(z)`: the floor of `z / 2^N`, truncated (R13). -/
def mulhi (n : Nat) (z : Int) : BitVec n := trunc n (z / 2 ^ n)

/-- `sll_N(a, s)` (R13). -/
def sll (n : Nat) (a : BitVec n) (s : Nat) : BitVec n := trunc n (uint a * 2 ^ s)

/-- `srl_N(a, s)` (R13). -/
def srl (n : Nat) (a : BitVec n) (s : Nat) : BitVec n := trunc n (uint a / 2 ^ s)

/-- `sra_N(a, s)`: the floor is toward minus infinity (R13). -/
def sra (n : Nat) (a : BitVec n) (s : Nat) : BitVec n := trunc n (sint a / 2 ^ s)

/-- `zext` to `m` bits (R10). -/
def zext {n : Nat} (m : Nat) (a : BitVec n) : BitVec m := trunc m (uint a)

/-- `sext` to `m` bits (R10). -/
def sext {n : Nat} (m : Nat) (a : BitVec n) : BitVec m := trunc m (sint a)

/-! ### Single-width add and subtract (R140) -/

/-- R141 to R143. -/
def fAdd (n : Nat) (a b : BitVec n) : BitVec n := trunc n (uint a + uint b)

/-- R144, R145. -/
def fSub (n : Nat) (a b : BitVec n) : BitVec n := trunc n (uint a - uint b)

/-- R146, R147. -/
def fRsub (n : Nat) (a b : BitVec n) : BitVec n := trunc n (uint b - uint a)

/-! ### Widening add and subtract (R150) -/

/-- R152, R153. -/
def fWaddu (n : Nat) (a b : BitVec n) : BitVec (2 * n) := trunc (2 * n) (uint a + uint b)

/-- R154, R155. -/
def fWsubu (n : Nat) (a b : BitVec n) : BitVec (2 * n) := trunc (2 * n) (uint a - uint b)

/-- R156, R157. -/
def fWadd (n : Nat) (a b : BitVec n) : BitVec (2 * n) := trunc (2 * n) (sint a + sint b)

/-- R158, R159. -/
def fWsub (n : Nat) (a b : BitVec n) : BitVec (2 * n) := trunc (2 * n) (sint a - sint b)

/-- R160, R161: only `b` is extended. -/
def fWadduW (n : Nat) (a : BitVec (2 * n)) (b : BitVec n) : BitVec (2 * n) := trunc (2 * n) (uint a + uint b)

/-- R162, R163. -/
def fWsubuW (n : Nat) (a : BitVec (2 * n)) (b : BitVec n) : BitVec (2 * n) := trunc (2 * n) (uint a - uint b)

/-- R164, R165. -/
def fWaddW (n : Nat) (a : BitVec (2 * n)) (b : BitVec n) : BitVec (2 * n) := trunc (2 * n) (sint a + sint b)

/-- R166, R167. -/
def fWsubW (n : Nat) (a : BitVec (2 * n)) (b : BitVec n) : BitVec (2 * n) := trunc (2 * n) (sint a - sint b)

/-! ### Add with carry, subtract with borrow, merge (R180, R320): `c` is the bit of `v0` -/

/-- R185 to R187. -/
def fAdc (n : Nat) (a b : BitVec n) (c : Bool) : BitVec n := trunc n (uint a + uint b + bit c)

/-- R194, R195. -/
def fSbc (n : Nat) (a b : BitVec n) (c : Bool) : BitVec n := trunc n (uint a - uint b - bit c)

/-- R321 to R323: the second operand where the mask bit is 1, else the first. -/
def fMerge (n : Nat) (a b : BitVec n) (c : Bool) : BitVec n := if c then b else a

/-! ### Bitwise logical (R200) -/

/-- R201 to R203. -/
def fAnd (n : Nat) (a b : BitVec n) : BitVec n := a &&& b

/-- R204 to R206. -/
def fOr (n : Nat) (a b : BitVec n) : BitVec n := a ||| b

/-- R207 to R209. -/
def fXor (n : Nat) (a b : BitVec n) : BitVec n := a ^^^ b

/-! ### Shifts (R210, R221): the amount is reduced modulo the width of the shifted operand -/

/-- R211 to R213. -/
def fSll (n : Nat) (a b : BitVec n) : BitVec n := sll n a (b.toNat % n)

/-- R214 to R216. -/
def fSrl (n : Nat) (a b : BitVec n) : BitVec n := srl n a (b.toNat % n)

/-- R217 to R219. -/
def fSra (n : Nat) (a b : BitVec n) : BitVec n := sra n a (b.toNat % n)

/-- R222 to R224: the low `SEW` bits of the shifted `2*SEW`-bit value. -/
def fNsrl (n : Nat) (a : BitVec (2 * n)) (b : BitVec n) : BitVec n := (srl (2 * n) a (b.toNat % (2 * n))).setWidth n

/-- R225 to R227. -/
def fNsra (n : Nat) (a : BitVec (2 * n)) (b : BitVec n) : BitVec n := (sra (2 * n) a (b.toNat % (2 * n))).setWidth n

/-! ### Minimum and maximum (R260) -/

/-- R261, R262. -/
def fMinu (n : Nat) (a b : BitVec n) : BitVec n := if uint a ≤ uint b then a else b

/-- R263, R264. -/
def fMin (n : Nat) (a b : BitVec n) : BitVec n := if sint a ≤ sint b then a else b

/-- R265, R266. -/
def fMaxu (n : Nat) (a b : BitVec n) : BitVec n := if uint b ≤ uint a then a else b

/-- R267, R268. -/
def fMax (n : Nat) (a b : BitVec n) : BitVec n := if sint b ≤ sint a then a else b

/-! ### Multiply (R270) -/

/-- R271, R272. -/
def fMul (n : Nat) (a b : BitVec n) : BitVec n := trunc n (sint a * sint b)

/-- R273, R274. -/
def fMulh (n : Nat) (a b : BitVec n) : BitVec n := mulhi n (sint a * sint b)

/-- R275, R276. -/
def fMulhu (n : Nat) (a b : BitVec n) : BitVec n := mulhi n (uint a * uint b)

/-- R277, R278: the `vs2` element is the signed operand. -/
def fMulhsu (n : Nat) (a b : BitVec n) : BitVec n := mulhi n (sint a * uint b)

/-! ### Divide and remainder (R280, R281): no operand traps -/

/-- `divu_N` (R281). -/
def fDivu (n : Nat) (a b : BitVec n) : BitVec n :=
  if uint b = 0 then BitVec.allOnes n else trunc n (uint a / uint b)

/-- `remu_N` (R281). -/
def fRemu (n : Nat) (a b : BitVec n) : BitVec n :=
  if uint b = 0 then a else trunc n (uint a % uint b)

/-- `div_N` (R281): the quotient rounds toward zero. -/
def fDiv (n : Nat) (a b : BitVec n) : BitVec n :=
  if uint b = 0 then BitVec.allOnes n
  else if sint a = -(2 ^ (n - 1)) ∧ sint b = -1 then a
  else trunc n ((sint a).tdiv (sint b))

/-- `rem_N` (R281). -/
def fRem (n : Nat) (a b : BitVec n) : BitVec n :=
  if uint b = 0 then a
  else if sint a = -(2 ^ (n - 1)) ∧ sint b = -1 then 0
  else trunc n (sint a - (sint a).tdiv (sint b) * sint b)

/-! ### Widening multiply (R290) -/

/-- R291, R292. -/
def fWmul (n : Nat) (a b : BitVec n) : BitVec (2 * n) := trunc (2 * n) (sint a * sint b)

/-- R293, R294. -/
def fWmulu (n : Nat) (a b : BitVec n) : BitVec (2 * n) := trunc (2 * n) (uint a * uint b)

/-- R295, R296: the `vs2` element is the signed operand (D15). -/
def fWmulsu (n : Nat) (a b : BitVec n) : BitVec (2 * n) := trunc (2 * n) (sint a * uint b)

/-! ### Multiply-add (R300, R310) -/

/-- R301, R302. -/
def fMacc (n : Nat) (a b d : BitVec n) : BitVec n := trunc n (uint b * uint a + uint d)

/-- R303, R304. -/
def fNmsac (n : Nat) (a b d : BitVec n) : BitVec n := trunc n (uint d - uint b * uint a)

/-- R305, R306. -/
def fMadd (n : Nat) (a b d : BitVec n) : BitVec n := trunc n (uint b * uint d + uint a)

/-- R307, R308. -/
def fNmsub (n : Nat) (a b d : BitVec n) : BitVec n := trunc n (uint a - uint b * uint d)

/-- R311, R312. -/
def fWmaccu (n : Nat) (a b : BitVec n) (d : BitVec (2 * n)) : BitVec (2 * n) :=
  trunc (2 * n) (uint b * uint a + uint d)

/-- R313, R314. -/
def fWmacc (n : Nat) (a b : BitVec n) (d : BitVec (2 * n)) : BitVec (2 * n) :=
  trunc (2 * n) (sint b * sint a + uint d)

/-- R315, R316: `vs1` or the scalar is the signed operand, `vs2` the unsigned. -/
def fWmaccsu (n : Nat) (a b : BitVec n) (d : BitVec (2 * n)) : BitVec (2 * n) :=
  trunc (2 * n) (sint b * uint a + uint d)

/-- R317: the scalar is the unsigned operand, `vs2` the signed. -/
def fWmaccus (n : Nat) (a b : BitVec n) (d : BitVec (2 * n)) : BitVec (2 * n) :=
  trunc (2 * n) (uint b * sint a + uint d)

/-! ### Extension (R170) -/

/-- `vzext` (R172, R174, R176). -/
def fZext (n m : Nat) (a : BitVec n) : BitVec m := zext m a

/-- `vsext` (R173, R175, R177). -/
def fSext (n m : Nat) (a : BitVec n) : BitVec m := sext m a

end Sys2Proof.Machine
end

