-- ==== Sys2Proof/Syntax.lean ====
section
/-! DEFINITION. The instructions: one constructor per row of spec/opcode_table.json, 139 of them, in the table's order
(00_scope.md R3). Operands stand in assembler order (30_encoding.md R85, R86): `vd` first, then `vs2` and the second
operand, but for the multiply-adds, whose `vs1` or `rs1` stands before `vs2`. A register number is its 5-bit field; an
immediate is the raw field of bits 19:15 (R68); `vm` is bit 25, true for unmasked (R69), and is an operand only where
the encoding leaves it free. The names are the mnemonics with the suffix in capitals. -/

namespace Sys2Proof

/-- An in-scope instruction (R3). -/
inductive Instr where
  -- Single-width and widening add and subtract (41_add_sub.md, R140 to R167).
  | vaddVV (vd vs2 vs1 : RegNum) (vm : Bool)
  | vaddVX (vd vs2 rs1 : RegNum) (vm : Bool)
  | vaddVI (vd vs2 : RegNum) (imm : BitVec 5) (vm : Bool)
  | vsubVV (vd vs2 vs1 : RegNum) (vm : Bool)
  | vsubVX (vd vs2 rs1 : RegNum) (vm : Bool)
  | vrsubVX (vd vs2 rs1 : RegNum) (vm : Bool)
  | vrsubVI (vd vs2 : RegNum) (imm : BitVec 5) (vm : Bool)
  | vwadduVV (vd vs2 vs1 : RegNum) (vm : Bool)
  | vwadduVX (vd vs2 rs1 : RegNum) (vm : Bool)
  | vwsubuVV (vd vs2 vs1 : RegNum) (vm : Bool)
  | vwsubuVX (vd vs2 rs1 : RegNum) (vm : Bool)
  | vwaddVV (vd vs2 vs1 : RegNum) (vm : Bool)
  | vwaddVX (vd vs2 rs1 : RegNum) (vm : Bool)
  | vwsubVV (vd vs2 vs1 : RegNum) (vm : Bool)
  | vwsubVX (vd vs2 rs1 : RegNum) (vm : Bool)
  | vwadduWV (vd vs2 vs1 : RegNum) (vm : Bool)
  | vwadduWX (vd vs2 rs1 : RegNum) (vm : Bool)
  | vwsubuWV (vd vs2 vs1 : RegNum) (vm : Bool)
  | vwsubuWX (vd vs2 rs1 : RegNum) (vm : Bool)
  | vwaddWV (vd vs2 vs1 : RegNum) (vm : Bool)
  | vwaddWX (vd vs2 rs1 : RegNum) (vm : Bool)
  | vwsubWV (vd vs2 vs1 : RegNum) (vm : Bool)
  | vwsubWX (vd vs2 rs1 : RegNum) (vm : Bool)
  -- Integer extension (42_extension.md, R170 to R177).
  | vzextVF2 (vd vs2 : RegNum) (vm : Bool)
  | vsextVF2 (vd vs2 : RegNum) (vm : Bool)
  | vzextVF4 (vd vs2 : RegNum) (vm : Bool)
  | vsextVF4 (vd vs2 : RegNum) (vm : Bool)
  | vzextVF8 (vd vs2 : RegNum) (vm : Bool)
  | vsextVF8 (vd vs2 : RegNum) (vm : Bool)
  -- Add-with-carry and subtract-with-borrow (43_carry.md, R180 to R199).
  | vadcVVM (vd vs2 vs1 : RegNum)
  | vadcVXM (vd vs2 rs1 : RegNum)
  | vadcVIM (vd vs2 : RegNum) (imm : BitVec 5)
  | vmadcVVM (vd vs2 vs1 : RegNum)
  | vmadcVXM (vd vs2 rs1 : RegNum)
  | vmadcVIM (vd vs2 : RegNum) (imm : BitVec 5)
  | vmadcVV (vd vs2 vs1 : RegNum)
  | vmadcVX (vd vs2 rs1 : RegNum)
  | vmadcVI (vd vs2 : RegNum) (imm : BitVec 5)
  | vsbcVVM (vd vs2 vs1 : RegNum)
  | vsbcVXM (vd vs2 rs1 : RegNum)
  | vmsbcVVM (vd vs2 vs1 : RegNum)
  | vmsbcVXM (vd vs2 rs1 : RegNum)
  | vmsbcVV (vd vs2 vs1 : RegNum)
  | vmsbcVX (vd vs2 rs1 : RegNum)
  -- Bitwise logical, single-width shift and narrowing right shift (44_logical_shift.md, R200 to R228).
  | vandVV (vd vs2 vs1 : RegNum) (vm : Bool)
  | vandVX (vd vs2 rs1 : RegNum) (vm : Bool)
  | vandVI (vd vs2 : RegNum) (imm : BitVec 5) (vm : Bool)
  | vorVV (vd vs2 vs1 : RegNum) (vm : Bool)
  | vorVX (vd vs2 rs1 : RegNum) (vm : Bool)
  | vorVI (vd vs2 : RegNum) (imm : BitVec 5) (vm : Bool)
  | vxorVV (vd vs2 vs1 : RegNum) (vm : Bool)
  | vxorVX (vd vs2 rs1 : RegNum) (vm : Bool)
  | vxorVI (vd vs2 : RegNum) (imm : BitVec 5) (vm : Bool)
  | vsllVV (vd vs2 vs1 : RegNum) (vm : Bool)
  | vsllVX (vd vs2 rs1 : RegNum) (vm : Bool)
  | vsllVI (vd vs2 : RegNum) (uimm : BitVec 5) (vm : Bool)
  | vsrlVV (vd vs2 vs1 : RegNum) (vm : Bool)
  | vsrlVX (vd vs2 rs1 : RegNum) (vm : Bool)
  | vsrlVI (vd vs2 : RegNum) (uimm : BitVec 5) (vm : Bool)
  | vsraVV (vd vs2 vs1 : RegNum) (vm : Bool)
  | vsraVX (vd vs2 rs1 : RegNum) (vm : Bool)
  | vsraVI (vd vs2 : RegNum) (uimm : BitVec 5) (vm : Bool)
  | vnsrlWV (vd vs2 vs1 : RegNum) (vm : Bool)
  | vnsrlWX (vd vs2 rs1 : RegNum) (vm : Bool)
  | vnsrlWI (vd vs2 : RegNum) (uimm : BitVec 5) (vm : Bool)
  | vnsraWV (vd vs2 vs1 : RegNum) (vm : Bool)
  | vnsraWX (vd vs2 rs1 : RegNum) (vm : Bool)
  | vnsraWI (vd vs2 : RegNum) (uimm : BitVec 5) (vm : Bool)
  -- Integer comparison (45_compare.md, R230 to R254).
  | vmseqVV (vd vs2 vs1 : RegNum) (vm : Bool)
  | vmseqVX (vd vs2 rs1 : RegNum) (vm : Bool)
  | vmseqVI (vd vs2 : RegNum) (imm : BitVec 5) (vm : Bool)
  | vmsneVV (vd vs2 vs1 : RegNum) (vm : Bool)
  | vmsneVX (vd vs2 rs1 : RegNum) (vm : Bool)
  | vmsneVI (vd vs2 : RegNum) (imm : BitVec 5) (vm : Bool)
  | vmsltuVV (vd vs2 vs1 : RegNum) (vm : Bool)
  | vmsltuVX (vd vs2 rs1 : RegNum) (vm : Bool)
  | vmsltVV (vd vs2 vs1 : RegNum) (vm : Bool)
  | vmsltVX (vd vs2 rs1 : RegNum) (vm : Bool)
  | vmsleuVV (vd vs2 vs1 : RegNum) (vm : Bool)
  | vmsleuVX (vd vs2 rs1 : RegNum) (vm : Bool)
  | vmsleuVI (vd vs2 : RegNum) (imm : BitVec 5) (vm : Bool)
  | vmsleVV (vd vs2 vs1 : RegNum) (vm : Bool)
  | vmsleVX (vd vs2 rs1 : RegNum) (vm : Bool)
  | vmsleVI (vd vs2 : RegNum) (imm : BitVec 5) (vm : Bool)
  | vmsgtuVX (vd vs2 rs1 : RegNum) (vm : Bool)
  | vmsgtuVI (vd vs2 : RegNum) (imm : BitVec 5) (vm : Bool)
  | vmsgtVX (vd vs2 rs1 : RegNum) (vm : Bool)
  | vmsgtVI (vd vs2 : RegNum) (imm : BitVec 5) (vm : Bool)
  -- Minimum and maximum, multiply, divide, widening multiply (46_minmax_mul_div.md, R260 to R297).
  | vminuVV (vd vs2 vs1 : RegNum) (vm : Bool)
  | vminuVX (vd vs2 rs1 : RegNum) (vm : Bool)
  | vminVV (vd vs2 vs1 : RegNum) (vm : Bool)
  | vminVX (vd vs2 rs1 : RegNum) (vm : Bool)
  | vmaxuVV (vd vs2 vs1 : RegNum) (vm : Bool)
  | vmaxuVX (vd vs2 rs1 : RegNum) (vm : Bool)
  | vmaxVV (vd vs2 vs1 : RegNum) (vm : Bool)
  | vmaxVX (vd vs2 rs1 : RegNum) (vm : Bool)
  | vmulVV (vd vs2 vs1 : RegNum) (vm : Bool)
  | vmulVX (vd vs2 rs1 : RegNum) (vm : Bool)
  | vmulhVV (vd vs2 vs1 : RegNum) (vm : Bool)
  | vmulhVX (vd vs2 rs1 : RegNum) (vm : Bool)
  | vmulhuVV (vd vs2 vs1 : RegNum) (vm : Bool)
  | vmulhuVX (vd vs2 rs1 : RegNum) (vm : Bool)
  | vmulhsuVV (vd vs2 vs1 : RegNum) (vm : Bool)
  | vmulhsuVX (vd vs2 rs1 : RegNum) (vm : Bool)
  | vdivuVV (vd vs2 vs1 : RegNum) (vm : Bool)
  | vdivuVX (vd vs2 rs1 : RegNum) (vm : Bool)
  | vdivVV (vd vs2 vs1 : RegNum) (vm : Bool)
  | vdivVX (vd vs2 rs1 : RegNum) (vm : Bool)
  | vremuVV (vd vs2 vs1 : RegNum) (vm : Bool)
  | vremuVX (vd vs2 rs1 : RegNum) (vm : Bool)
  | vremVV (vd vs2 vs1 : RegNum) (vm : Bool)
  | vremVX (vd vs2 rs1 : RegNum) (vm : Bool)
  | vwmulVV (vd vs2 vs1 : RegNum) (vm : Bool)
  | vwmulVX (vd vs2 rs1 : RegNum) (vm : Bool)
  | vwmuluVV (vd vs2 vs1 : RegNum) (vm : Bool)
  | vwmuluVX (vd vs2 rs1 : RegNum) (vm : Bool)
  | vwmulsuVV (vd vs2 vs1 : RegNum) (vm : Bool)
  | vwmulsuVX (vd vs2 rs1 : RegNum) (vm : Bool)
  -- Single-width and widening multiply-add (47_multiply_add.md, R300 to R318).
  | vmaccVV (vd vs1 vs2 : RegNum) (vm : Bool)
  | vmaccVX (vd rs1 vs2 : RegNum) (vm : Bool)
  | vnmsacVV (vd vs1 vs2 : RegNum) (vm : Bool)
  | vnmsacVX (vd rs1 vs2 : RegNum) (vm : Bool)
  | vmaddVV (vd vs1 vs2 : RegNum) (vm : Bool)
  | vmaddVX (vd rs1 vs2 : RegNum) (vm : Bool)
  | vnmsubVV (vd vs1 vs2 : RegNum) (vm : Bool)
  | vnmsubVX (vd rs1 vs2 : RegNum) (vm : Bool)
  | vwmaccuVV (vd vs1 vs2 : RegNum) (vm : Bool)
  | vwmaccuVX (vd rs1 vs2 : RegNum) (vm : Bool)
  | vwmaccVV (vd vs1 vs2 : RegNum) (vm : Bool)
  | vwmaccVX (vd rs1 vs2 : RegNum) (vm : Bool)
  | vwmaccsuVV (vd vs1 vs2 : RegNum) (vm : Bool)
  | vwmaccsuVX (vd rs1 vs2 : RegNum) (vm : Bool)
  | vwmaccusVX (vd rs1 vs2 : RegNum) (vm : Bool)
  -- Merge and move (48_merge_move.md, R320 to R328).
  | vmergeVVM (vd vs2 vs1 : RegNum)
  | vmergeVXM (vd vs2 rs1 : RegNum)
  | vmergeVIM (vd vs2 : RegNum) (imm : BitVec 5)
  | vmvVV (vd vs1 : RegNum)
  | vmvVX (vd rs1 : RegNum)
  | vmvVI (vd : RegNum) (imm : BitVec 5)
deriving DecidableEq, Repr

end Sys2Proof
end

