-- ==== Sys2Proof/WellFormed.lean ====
section
/-! DEFINITION. The operand form of every instruction (40_execution_model.md R101) and the checks that depend on the
instruction word alone (30_encoding.md R87, 40_execution_model.md R108, R109). The checks that depend on `vtype` are
Sys2Proof/Machine/Operands.lean (as the common rules state them) and Sys2Proof/Safety.lean (as the families do). -/

namespace Sys2Proof

/-- The shapes of R101, the destructive ones apart (R300, R310). -/
inductive Kind where
  /-- S: every operand `SEW` wide. -/
  | single
  /-- MV: `vs2` is not read (R324). -/
  | move
  /-- WV: destination `2*SEW`, sources `SEW`. -/
  | widen
  /-- WW: destination and `vs2` `2*SEW`, second operand `SEW`. -/
  | widenWide
  /-- N: `vs2` `2*SEW`, destination and second operand `SEW`. -/
  | narrow
  /-- Xk: destination `SEW`, source `SEW/k` (R170). -/
  | ext (k : Nat)
  /-- M: the destination is a mask register (R230, R180). -/
  | mask
  /-- S with the destination also read (R300). -/
  | mac
  /-- WV with the destination also read, at `2*SEW` (R310). -/
  | widenMac
deriving DecidableEq, Repr

/-- What an instruction names: its shape, its destination, its vector sources, and whether it reads `v0` as a mask
(masked execution, carry-in, borrow-in or selector: R27, R42). -/
structure Form where
  kind : Kind
  vd : RegNum
  vs2 : Option RegNum
  vs1 : Option RegNum
  readsV0 : Bool
deriving DecidableEq, Repr

/-- The form of an instruction (R42, R101). -/
def Instr.form : Instr → Form
  | .vaddVV vd vs2 vs1 vm => ⟨.single, vd, some vs2, some vs1, !vm⟩
  | .vaddVX vd vs2 _ vm => ⟨.single, vd, some vs2, none, !vm⟩
  | .vaddVI vd vs2 _ vm => ⟨.single, vd, some vs2, none, !vm⟩
  | .vsubVV vd vs2 vs1 vm => ⟨.single, vd, some vs2, some vs1, !vm⟩
  | .vsubVX vd vs2 _ vm => ⟨.single, vd, some vs2, none, !vm⟩
  | .vrsubVX vd vs2 _ vm => ⟨.single, vd, some vs2, none, !vm⟩
  | .vrsubVI vd vs2 _ vm => ⟨.single, vd, some vs2, none, !vm⟩
  | .vwadduVV vd vs2 vs1 vm => ⟨.widen, vd, some vs2, some vs1, !vm⟩
  | .vwadduVX vd vs2 _ vm => ⟨.widen, vd, some vs2, none, !vm⟩
  | .vwsubuVV vd vs2 vs1 vm => ⟨.widen, vd, some vs2, some vs1, !vm⟩
  | .vwsubuVX vd vs2 _ vm => ⟨.widen, vd, some vs2, none, !vm⟩
  | .vwaddVV vd vs2 vs1 vm => ⟨.widen, vd, some vs2, some vs1, !vm⟩
  | .vwaddVX vd vs2 _ vm => ⟨.widen, vd, some vs2, none, !vm⟩
  | .vwsubVV vd vs2 vs1 vm => ⟨.widen, vd, some vs2, some vs1, !vm⟩
  | .vwsubVX vd vs2 _ vm => ⟨.widen, vd, some vs2, none, !vm⟩
  | .vwadduWV vd vs2 vs1 vm => ⟨.widenWide, vd, some vs2, some vs1, !vm⟩
  | .vwadduWX vd vs2 _ vm => ⟨.widenWide, vd, some vs2, none, !vm⟩
  | .vwsubuWV vd vs2 vs1 vm => ⟨.widenWide, vd, some vs2, some vs1, !vm⟩
  | .vwsubuWX vd vs2 _ vm => ⟨.widenWide, vd, some vs2, none, !vm⟩
  | .vwaddWV vd vs2 vs1 vm => ⟨.widenWide, vd, some vs2, some vs1, !vm⟩
  | .vwaddWX vd vs2 _ vm => ⟨.widenWide, vd, some vs2, none, !vm⟩
  | .vwsubWV vd vs2 vs1 vm => ⟨.widenWide, vd, some vs2, some vs1, !vm⟩
  | .vwsubWX vd vs2 _ vm => ⟨.widenWide, vd, some vs2, none, !vm⟩
  | .vzextVF2 vd vs2 vm => ⟨.ext 2, vd, some vs2, none, !vm⟩
  | .vsextVF2 vd vs2 vm => ⟨.ext 2, vd, some vs2, none, !vm⟩
  | .vzextVF4 vd vs2 vm => ⟨.ext 4, vd, some vs2, none, !vm⟩
  | .vsextVF4 vd vs2 vm => ⟨.ext 4, vd, some vs2, none, !vm⟩
  | .vzextVF8 vd vs2 vm => ⟨.ext 8, vd, some vs2, none, !vm⟩
  | .vsextVF8 vd vs2 vm => ⟨.ext 8, vd, some vs2, none, !vm⟩
  | .vadcVVM vd vs2 vs1 => ⟨.single, vd, some vs2, some vs1, true⟩
  | .vadcVXM vd vs2 _ => ⟨.single, vd, some vs2, none, true⟩
  | .vadcVIM vd vs2 _ => ⟨.single, vd, some vs2, none, true⟩
  | .vmadcVVM vd vs2 vs1 => ⟨.mask, vd, some vs2, some vs1, true⟩
  | .vmadcVXM vd vs2 _ => ⟨.mask, vd, some vs2, none, true⟩
  | .vmadcVIM vd vs2 _ => ⟨.mask, vd, some vs2, none, true⟩
  | .vmadcVV vd vs2 vs1 => ⟨.mask, vd, some vs2, some vs1, false⟩
  | .vmadcVX vd vs2 _ => ⟨.mask, vd, some vs2, none, false⟩
  | .vmadcVI vd vs2 _ => ⟨.mask, vd, some vs2, none, false⟩
  | .vsbcVVM vd vs2 vs1 => ⟨.single, vd, some vs2, some vs1, true⟩
  | .vsbcVXM vd vs2 _ => ⟨.single, vd, some vs2, none, true⟩
  | .vmsbcVVM vd vs2 vs1 => ⟨.mask, vd, some vs2, some vs1, true⟩
  | .vmsbcVXM vd vs2 _ => ⟨.mask, vd, some vs2, none, true⟩
  | .vmsbcVV vd vs2 vs1 => ⟨.mask, vd, some vs2, some vs1, false⟩
  | .vmsbcVX vd vs2 _ => ⟨.mask, vd, some vs2, none, false⟩
  | .vandVV vd vs2 vs1 vm => ⟨.single, vd, some vs2, some vs1, !vm⟩
  | .vandVX vd vs2 _ vm => ⟨.single, vd, some vs2, none, !vm⟩
  | .vandVI vd vs2 _ vm => ⟨.single, vd, some vs2, none, !vm⟩
  | .vorVV vd vs2 vs1 vm => ⟨.single, vd, some vs2, some vs1, !vm⟩
  | .vorVX vd vs2 _ vm => ⟨.single, vd, some vs2, none, !vm⟩
  | .vorVI vd vs2 _ vm => ⟨.single, vd, some vs2, none, !vm⟩
  | .vxorVV vd vs2 vs1 vm => ⟨.single, vd, some vs2, some vs1, !vm⟩
  | .vxorVX vd vs2 _ vm => ⟨.single, vd, some vs2, none, !vm⟩
  | .vxorVI vd vs2 _ vm => ⟨.single, vd, some vs2, none, !vm⟩
  | .vsllVV vd vs2 vs1 vm => ⟨.single, vd, some vs2, some vs1, !vm⟩
  | .vsllVX vd vs2 _ vm => ⟨.single, vd, some vs2, none, !vm⟩
  | .vsllVI vd vs2 _ vm => ⟨.single, vd, some vs2, none, !vm⟩
  | .vsrlVV vd vs2 vs1 vm => ⟨.single, vd, some vs2, some vs1, !vm⟩
  | .vsrlVX vd vs2 _ vm => ⟨.single, vd, some vs2, none, !vm⟩
  | .vsrlVI vd vs2 _ vm => ⟨.single, vd, some vs2, none, !vm⟩
  | .vsraVV vd vs2 vs1 vm => ⟨.single, vd, some vs2, some vs1, !vm⟩
  | .vsraVX vd vs2 _ vm => ⟨.single, vd, some vs2, none, !vm⟩
  | .vsraVI vd vs2 _ vm => ⟨.single, vd, some vs2, none, !vm⟩
  | .vnsrlWV vd vs2 vs1 vm => ⟨.narrow, vd, some vs2, some vs1, !vm⟩
  | .vnsrlWX vd vs2 _ vm => ⟨.narrow, vd, some vs2, none, !vm⟩
  | .vnsrlWI vd vs2 _ vm => ⟨.narrow, vd, some vs2, none, !vm⟩
  | .vnsraWV vd vs2 vs1 vm => ⟨.narrow, vd, some vs2, some vs1, !vm⟩
  | .vnsraWX vd vs2 _ vm => ⟨.narrow, vd, some vs2, none, !vm⟩
  | .vnsraWI vd vs2 _ vm => ⟨.narrow, vd, some vs2, none, !vm⟩
  | .vmseqVV vd vs2 vs1 vm => ⟨.mask, vd, some vs2, some vs1, !vm⟩
  | .vmseqVX vd vs2 _ vm => ⟨.mask, vd, some vs2, none, !vm⟩
  | .vmseqVI vd vs2 _ vm => ⟨.mask, vd, some vs2, none, !vm⟩
  | .vmsneVV vd vs2 vs1 vm => ⟨.mask, vd, some vs2, some vs1, !vm⟩
  | .vmsneVX vd vs2 _ vm => ⟨.mask, vd, some vs2, none, !vm⟩
  | .vmsneVI vd vs2 _ vm => ⟨.mask, vd, some vs2, none, !vm⟩
  | .vmsltuVV vd vs2 vs1 vm => ⟨.mask, vd, some vs2, some vs1, !vm⟩
  | .vmsltuVX vd vs2 _ vm => ⟨.mask, vd, some vs2, none, !vm⟩
  | .vmsltVV vd vs2 vs1 vm => ⟨.mask, vd, some vs2, some vs1, !vm⟩
  | .vmsltVX vd vs2 _ vm => ⟨.mask, vd, some vs2, none, !vm⟩
  | .vmsleuVV vd vs2 vs1 vm => ⟨.mask, vd, some vs2, some vs1, !vm⟩
  | .vmsleuVX vd vs2 _ vm => ⟨.mask, vd, some vs2, none, !vm⟩
  | .vmsleuVI vd vs2 _ vm => ⟨.mask, vd, some vs2, none, !vm⟩
  | .vmsleVV vd vs2 vs1 vm => ⟨.mask, vd, some vs2, some vs1, !vm⟩
  | .vmsleVX vd vs2 _ vm => ⟨.mask, vd, some vs2, none, !vm⟩
  | .vmsleVI vd vs2 _ vm => ⟨.mask, vd, some vs2, none, !vm⟩
  | .vmsgtuVX vd vs2 _ vm => ⟨.mask, vd, some vs2, none, !vm⟩
  | .vmsgtuVI vd vs2 _ vm => ⟨.mask, vd, some vs2, none, !vm⟩
  | .vmsgtVX vd vs2 _ vm => ⟨.mask, vd, some vs2, none, !vm⟩
  | .vmsgtVI vd vs2 _ vm => ⟨.mask, vd, some vs2, none, !vm⟩
  | .vminuVV vd vs2 vs1 vm => ⟨.single, vd, some vs2, some vs1, !vm⟩
  | .vminuVX vd vs2 _ vm => ⟨.single, vd, some vs2, none, !vm⟩
  | .vminVV vd vs2 vs1 vm => ⟨.single, vd, some vs2, some vs1, !vm⟩
  | .vminVX vd vs2 _ vm => ⟨.single, vd, some vs2, none, !vm⟩
  | .vmaxuVV vd vs2 vs1 vm => ⟨.single, vd, some vs2, some vs1, !vm⟩
  | .vmaxuVX vd vs2 _ vm => ⟨.single, vd, some vs2, none, !vm⟩
  | .vmaxVV vd vs2 vs1 vm => ⟨.single, vd, some vs2, some vs1, !vm⟩
  | .vmaxVX vd vs2 _ vm => ⟨.single, vd, some vs2, none, !vm⟩
  | .vmulVV vd vs2 vs1 vm => ⟨.single, vd, some vs2, some vs1, !vm⟩
  | .vmulVX vd vs2 _ vm => ⟨.single, vd, some vs2, none, !vm⟩
  | .vmulhVV vd vs2 vs1 vm => ⟨.single, vd, some vs2, some vs1, !vm⟩
  | .vmulhVX vd vs2 _ vm => ⟨.single, vd, some vs2, none, !vm⟩
  | .vmulhuVV vd vs2 vs1 vm => ⟨.single, vd, some vs2, some vs1, !vm⟩
  | .vmulhuVX vd vs2 _ vm => ⟨.single, vd, some vs2, none, !vm⟩
  | .vmulhsuVV vd vs2 vs1 vm => ⟨.single, vd, some vs2, some vs1, !vm⟩
  | .vmulhsuVX vd vs2 _ vm => ⟨.single, vd, some vs2, none, !vm⟩
  | .vdivuVV vd vs2 vs1 vm => ⟨.single, vd, some vs2, some vs1, !vm⟩
  | .vdivuVX vd vs2 _ vm => ⟨.single, vd, some vs2, none, !vm⟩
  | .vdivVV vd vs2 vs1 vm => ⟨.single, vd, some vs2, some vs1, !vm⟩
  | .vdivVX vd vs2 _ vm => ⟨.single, vd, some vs2, none, !vm⟩
  | .vremuVV vd vs2 vs1 vm => ⟨.single, vd, some vs2, some vs1, !vm⟩
  | .vremuVX vd vs2 _ vm => ⟨.single, vd, some vs2, none, !vm⟩
  | .vremVV vd vs2 vs1 vm => ⟨.single, vd, some vs2, some vs1, !vm⟩
  | .vremVX vd vs2 _ vm => ⟨.single, vd, some vs2, none, !vm⟩
  | .vwmulVV vd vs2 vs1 vm => ⟨.widen, vd, some vs2, some vs1, !vm⟩
  | .vwmulVX vd vs2 _ vm => ⟨.widen, vd, some vs2, none, !vm⟩
  | .vwmuluVV vd vs2 vs1 vm => ⟨.widen, vd, some vs2, some vs1, !vm⟩
  | .vwmuluVX vd vs2 _ vm => ⟨.widen, vd, some vs2, none, !vm⟩
  | .vwmulsuVV vd vs2 vs1 vm => ⟨.widen, vd, some vs2, some vs1, !vm⟩
  | .vwmulsuVX vd vs2 _ vm => ⟨.widen, vd, some vs2, none, !vm⟩
  | .vmaccVV vd vs1 vs2 vm => ⟨.mac, vd, some vs2, some vs1, !vm⟩
  | .vmaccVX vd _ vs2 vm => ⟨.mac, vd, some vs2, none, !vm⟩
  | .vnmsacVV vd vs1 vs2 vm => ⟨.mac, vd, some vs2, some vs1, !vm⟩
  | .vnmsacVX vd _ vs2 vm => ⟨.mac, vd, some vs2, none, !vm⟩
  | .vmaddVV vd vs1 vs2 vm => ⟨.mac, vd, some vs2, some vs1, !vm⟩
  | .vmaddVX vd _ vs2 vm => ⟨.mac, vd, some vs2, none, !vm⟩
  | .vnmsubVV vd vs1 vs2 vm => ⟨.mac, vd, some vs2, some vs1, !vm⟩
  | .vnmsubVX vd _ vs2 vm => ⟨.mac, vd, some vs2, none, !vm⟩
  | .vwmaccuVV vd vs1 vs2 vm => ⟨.widenMac, vd, some vs2, some vs1, !vm⟩
  | .vwmaccuVX vd _ vs2 vm => ⟨.widenMac, vd, some vs2, none, !vm⟩
  | .vwmaccVV vd vs1 vs2 vm => ⟨.widenMac, vd, some vs2, some vs1, !vm⟩
  | .vwmaccVX vd _ vs2 vm => ⟨.widenMac, vd, some vs2, none, !vm⟩
  | .vwmaccsuVV vd vs1 vs2 vm => ⟨.widenMac, vd, some vs2, some vs1, !vm⟩
  | .vwmaccsuVX vd _ vs2 vm => ⟨.widenMac, vd, some vs2, none, !vm⟩
  | .vwmaccusVX vd _ vs2 vm => ⟨.widenMac, vd, some vs2, none, !vm⟩
  | .vmergeVVM vd vs2 vs1 => ⟨.single, vd, some vs2, some vs1, true⟩
  | .vmergeVXM vd vs2 _ => ⟨.single, vd, some vs2, none, true⟩
  | .vmergeVIM vd vs2 _ => ⟨.single, vd, some vs2, none, true⟩
  | .vmvVV vd vs1 => ⟨.move, vd, none, some vs1, false⟩
  | .vmvVX vd _ => ⟨.move, vd, none, none, false⟩
  | .vmvVI vd _ => ⟨.move, vd, none, none, false⟩

/-- The destination is a mask value (shape M). -/
def Form.maskDest (f : Form) : Bool := f.kind == .mask

/-- R108, R87(b), R87(f): an instruction that reads `v0` as a mask does not write `v0`, unless its result is a mask. -/
def Form.destOffMask (f : Form) : Bool := !f.readsV0 || f.maskDest || f.vd != 0

/-- R109: an instruction that reads `v0` as a mask does not name it as a data source. -/
def Form.sourcesOffMask (f : Form) : Bool := !f.readsV0 || (f.vs2 != some 0 && f.vs1 != some 0)

/-- The instruction is not reserved for its word alone, whatever `vtype` holds. -/
def Instr.wellFormed (i : Instr) : Bool := i.form.destOffMask && i.form.sourcesOffMask

end Sys2Proof
end

