-- ==== Sys2Proof/Decode.lean ====
section
/-! DEFINITION. The decoder and, after it, the encoder (30_encoding.md R65 to R74, R87, R89).
Every 32-bit word is an instruction, a reserved encoding of the in-scope opcode space, or outside the spec; a byte
sequence too short to hold a word is rejected by name as well. The state-dependent checks are not decoding (R74). -/

namespace Sys2Proof

/-- The outcome of decoding (R74, R87, R89). -/
inductive Decoded where
  /-- One of the 139 instructions. -/
  | instr (i : Instr)
  /-- A reserved encoding inside the in-scope opcode space (R87): it raises IllegalInstruction (R331). -/
  | reserved
  /-- A word the spec gives no meaning (R89): refused. -/
  | outside
  /-- Fewer than four bytes were given: no word to decode (R65). -/
  | short
deriving DecidableEq, Repr

/-- R72: the sub-opcodes of the integer extension instructions; every other value is reserved (R87(e)). -/
def decodeExtension (vm : Bool) (vs2 a vd : BitVec 5) : Decoded :=
  match a.toNat with
  | 0b00010 => .instr (.vzextVF8 vd vs2 vm)
  | 0b00011 => .instr (.vsextVF8 vd vs2 vm)
  | 0b00100 => .instr (.vzextVF4 vd vs2 vm)
  | 0b00101 => .instr (.vsextVF4 vd vs2 vm)
  | 0b00110 => .instr (.vzextVF2 vd vs2 vm)
  | 0b00111 => .instr (.vsextVF2 vd vs2 vm)
  | _ => .reserved

/-- R70 under `OPIVV` (`funct3` = 0b000), with the refinements of R73 and the reserved cases of R87; `a` is bits 19:15. -/
def decodeOPIVV (funct6 : Nat) (vm : Bool) (vs2 a vd : BitVec 5) : Decoded :=
  match funct6 with
  | 0b000000 => .instr (.vaddVV vd vs2 a vm)
  | 0b000010 => .instr (.vsubVV vd vs2 a vm)
  | 0b000011 => .reserved -- no such form of vrsub (R87(d))
  | 0b000100 => .instr (.vminuVV vd vs2 a vm)
  | 0b000101 => .instr (.vminVV vd vs2 a vm)
  | 0b000110 => .instr (.vmaxuVV vd vs2 a vm)
  | 0b000111 => .instr (.vmaxVV vd vs2 a vm)
  | 0b001001 => .instr (.vandVV vd vs2 a vm)
  | 0b001010 => .instr (.vorVV vd vs2 a vm)
  | 0b001011 => .instr (.vxorVV vd vs2 a vm)
  | 0b010000 => if vm then .reserved else .instr (.vadcVVM vd vs2 a) -- R87(a)
  | 0b010001 => .instr (if vm then .vmadcVV vd vs2 a else .vmadcVVM vd vs2 a)
  | 0b010010 => if vm then .reserved else .instr (.vsbcVVM vd vs2 a) -- R87(a)
  | 0b010011 => .instr (if vm then .vmsbcVV vd vs2 a else .vmsbcVVM vd vs2 a)
  | 0b010111 => if vm then (if vs2 = 0 then .instr (.vmvVV vd a) else .reserved) else .instr (.vmergeVVM vd vs2 a) -- R87(c)
  | 0b011000 => .instr (.vmseqVV vd vs2 a vm)
  | 0b011001 => .instr (.vmsneVV vd vs2 a vm)
  | 0b011010 => .instr (.vmsltuVV vd vs2 a vm)
  | 0b011011 => .instr (.vmsltVV vd vs2 a vm)
  | 0b011100 => .instr (.vmsleuVV vd vs2 a vm)
  | 0b011101 => .instr (.vmsleVV vd vs2 a vm)
  | 0b011110 => .reserved -- no such form of vmsgtu (R87(d))
  | 0b011111 => .reserved -- no such form of vmsgt (R87(d))
  | 0b100101 => .instr (.vsllVV vd vs2 a vm)
  | 0b101000 => .instr (.vsrlVV vd vs2 a vm)
  | 0b101001 => .instr (.vsraVV vd vs2 a vm)
  | 0b101100 => .instr (.vnsrlWV vd vs2 a vm)
  | 0b101101 => .instr (.vnsraWV vd vs2 a vm)
  | _ => .outside

/-- R70 under `OPIVI` (`funct3` = 0b011), with the refinements of R73 and the reserved cases of R87; `a` is bits 19:15. -/
def decodeOPIVI (funct6 : Nat) (vm : Bool) (vs2 a vd : BitVec 5) : Decoded :=
  match funct6 with
  | 0b000000 => .instr (.vaddVI vd vs2 a vm)
  | 0b000010 => .reserved -- no such form of vsub (R87(d))
  | 0b000011 => .instr (.vrsubVI vd vs2 a vm)
  | 0b000100 => .reserved -- no such form of vminu (R87(d))
  | 0b000101 => .reserved -- no such form of vmin (R87(d))
  | 0b000110 => .reserved -- no such form of vmaxu (R87(d))
  | 0b000111 => .reserved -- no such form of vmax (R87(d))
  | 0b001001 => .instr (.vandVI vd vs2 a vm)
  | 0b001010 => .instr (.vorVI vd vs2 a vm)
  | 0b001011 => .instr (.vxorVI vd vs2 a vm)
  | 0b010000 => if vm then .reserved else .instr (.vadcVIM vd vs2 a) -- R87(a)
  | 0b010001 => .instr (if vm then .vmadcVI vd vs2 a else .vmadcVIM vd vs2 a)
  | 0b010010 => .reserved -- no such form of vsbc (R87(d))
  | 0b010011 => .reserved -- no such form of vmsbc (R87(d))
  | 0b010111 => if vm then (if vs2 = 0 then .instr (.vmvVI vd a) else .reserved) else .instr (.vmergeVIM vd vs2 a) -- R87(c)
  | 0b011000 => .instr (.vmseqVI vd vs2 a vm)
  | 0b011001 => .instr (.vmsneVI vd vs2 a vm)
  | 0b011010 => .reserved -- no such form of vmsltu (R87(d))
  | 0b011011 => .reserved -- no such form of vmslt (R87(d))
  | 0b011100 => .instr (.vmsleuVI vd vs2 a vm)
  | 0b011101 => .instr (.vmsleVI vd vs2 a vm)
  | 0b011110 => .instr (.vmsgtuVI vd vs2 a vm)
  | 0b011111 => .instr (.vmsgtVI vd vs2 a vm)
  | 0b100101 => .instr (.vsllVI vd vs2 a vm)
  | 0b101000 => .instr (.vsrlVI vd vs2 a vm)
  | 0b101001 => .instr (.vsraVI vd vs2 a vm)
  | 0b101100 => .instr (.vnsrlWI vd vs2 a vm)
  | 0b101101 => .instr (.vnsraWI vd vs2 a vm)
  | _ => .outside

/-- R70 under `OPIVX` (`funct3` = 0b100), with the refinements of R73 and the reserved cases of R87; `a` is bits 19:15. -/
def decodeOPIVX (funct6 : Nat) (vm : Bool) (vs2 a vd : BitVec 5) : Decoded :=
  match funct6 with
  | 0b000000 => .instr (.vaddVX vd vs2 a vm)
  | 0b000010 => .instr (.vsubVX vd vs2 a vm)
  | 0b000011 => .instr (.vrsubVX vd vs2 a vm)
  | 0b000100 => .instr (.vminuVX vd vs2 a vm)
  | 0b000101 => .instr (.vminVX vd vs2 a vm)
  | 0b000110 => .instr (.vmaxuVX vd vs2 a vm)
  | 0b000111 => .instr (.vmaxVX vd vs2 a vm)
  | 0b001001 => .instr (.vandVX vd vs2 a vm)
  | 0b001010 => .instr (.vorVX vd vs2 a vm)
  | 0b001011 => .instr (.vxorVX vd vs2 a vm)
  | 0b010000 => if vm then .reserved else .instr (.vadcVXM vd vs2 a) -- R87(a)
  | 0b010001 => .instr (if vm then .vmadcVX vd vs2 a else .vmadcVXM vd vs2 a)
  | 0b010010 => if vm then .reserved else .instr (.vsbcVXM vd vs2 a) -- R87(a)
  | 0b010011 => .instr (if vm then .vmsbcVX vd vs2 a else .vmsbcVXM vd vs2 a)
  | 0b010111 => if vm then (if vs2 = 0 then .instr (.vmvVX vd a) else .reserved) else .instr (.vmergeVXM vd vs2 a) -- R87(c)
  | 0b011000 => .instr (.vmseqVX vd vs2 a vm)
  | 0b011001 => .instr (.vmsneVX vd vs2 a vm)
  | 0b011010 => .instr (.vmsltuVX vd vs2 a vm)
  | 0b011011 => .instr (.vmsltVX vd vs2 a vm)
  | 0b011100 => .instr (.vmsleuVX vd vs2 a vm)
  | 0b011101 => .instr (.vmsleVX vd vs2 a vm)
  | 0b011110 => .instr (.vmsgtuVX vd vs2 a vm)
  | 0b011111 => .instr (.vmsgtVX vd vs2 a vm)
  | 0b100101 => .instr (.vsllVX vd vs2 a vm)
  | 0b101000 => .instr (.vsrlVX vd vs2 a vm)
  | 0b101001 => .instr (.vsraVX vd vs2 a vm)
  | 0b101100 => .instr (.vnsrlWX vd vs2 a vm)
  | 0b101101 => .instr (.vnsraWX vd vs2 a vm)
  | _ => .outside

/-- R71 under `OPMVV` (`funct3` = 0b010), with the refinements of R73 and the reserved cases of R87; `a` is bits 19:15. -/
def decodeOPMVV (funct6 : Nat) (vm : Bool) (vs2 a vd : BitVec 5) : Decoded :=
  match funct6 with
  | 0b010010 => decodeExtension vm vs2 a vd
  | 0b100000 => .instr (.vdivuVV vd vs2 a vm)
  | 0b100001 => .instr (.vdivVV vd vs2 a vm)
  | 0b100010 => .instr (.vremuVV vd vs2 a vm)
  | 0b100011 => .instr (.vremVV vd vs2 a vm)
  | 0b100100 => .instr (.vmulhuVV vd vs2 a vm)
  | 0b100101 => .instr (.vmulVV vd vs2 a vm)
  | 0b100110 => .instr (.vmulhsuVV vd vs2 a vm)
  | 0b100111 => .instr (.vmulhVV vd vs2 a vm)
  | 0b101001 => .instr (.vmaddVV vd a vs2 vm)
  | 0b101011 => .instr (.vnmsubVV vd a vs2 vm)
  | 0b101101 => .instr (.vmaccVV vd a vs2 vm)
  | 0b101111 => .instr (.vnmsacVV vd a vs2 vm)
  | 0b110000 => .instr (.vwadduVV vd vs2 a vm)
  | 0b110001 => .instr (.vwaddVV vd vs2 a vm)
  | 0b110010 => .instr (.vwsubuVV vd vs2 a vm)
  | 0b110011 => .instr (.vwsubVV vd vs2 a vm)
  | 0b110100 => .instr (.vwadduWV vd vs2 a vm)
  | 0b110101 => .instr (.vwaddWV vd vs2 a vm)
  | 0b110110 => .instr (.vwsubuWV vd vs2 a vm)
  | 0b110111 => .instr (.vwsubWV vd vs2 a vm)
  | 0b111000 => .instr (.vwmuluVV vd vs2 a vm)
  | 0b111010 => .instr (.vwmulsuVV vd vs2 a vm)
  | 0b111011 => .instr (.vwmulVV vd vs2 a vm)
  | 0b111100 => .instr (.vwmaccuVV vd a vs2 vm)
  | 0b111101 => .instr (.vwmaccVV vd a vs2 vm)
  | 0b111110 => .reserved -- no such form of vwmaccus (R87(d))
  | 0b111111 => .instr (.vwmaccsuVV vd a vs2 vm)
  | _ => .outside

/-- R71 under `OPMVX` (`funct3` = 0b110), with the refinements of R73 and the reserved cases of R87; `a` is bits 19:15. -/
def decodeOPMVX (funct6 : Nat) (vm : Bool) (vs2 a vd : BitVec 5) : Decoded :=
  match funct6 with
  | 0b010010 => .reserved -- no such form of vsext, vzext (R87(d))
  | 0b100000 => .instr (.vdivuVX vd vs2 a vm)
  | 0b100001 => .instr (.vdivVX vd vs2 a vm)
  | 0b100010 => .instr (.vremuVX vd vs2 a vm)
  | 0b100011 => .instr (.vremVX vd vs2 a vm)
  | 0b100100 => .instr (.vmulhuVX vd vs2 a vm)
  | 0b100101 => .instr (.vmulVX vd vs2 a vm)
  | 0b100110 => .instr (.vmulhsuVX vd vs2 a vm)
  | 0b100111 => .instr (.vmulhVX vd vs2 a vm)
  | 0b101001 => .instr (.vmaddVX vd a vs2 vm)
  | 0b101011 => .instr (.vnmsubVX vd a vs2 vm)
  | 0b101101 => .instr (.vmaccVX vd a vs2 vm)
  | 0b101111 => .instr (.vnmsacVX vd a vs2 vm)
  | 0b110000 => .instr (.vwadduVX vd vs2 a vm)
  | 0b110001 => .instr (.vwaddVX vd vs2 a vm)
  | 0b110010 => .instr (.vwsubuVX vd vs2 a vm)
  | 0b110011 => .instr (.vwsubVX vd vs2 a vm)
  | 0b110100 => .instr (.vwadduWX vd vs2 a vm)
  | 0b110101 => .instr (.vwaddWX vd vs2 a vm)
  | 0b110110 => .instr (.vwsubuWX vd vs2 a vm)
  | 0b110111 => .instr (.vwsubWX vd vs2 a vm)
  | 0b111000 => .instr (.vwmuluVX vd vs2 a vm)
  | 0b111010 => .instr (.vwmulsuVX vd vs2 a vm)
  | 0b111011 => .instr (.vwmulVX vd vs2 a vm)
  | 0b111100 => .instr (.vwmaccuVX vd a vs2 vm)
  | 0b111101 => .instr (.vwmaccVX vd a vs2 vm)
  | 0b111110 => .instr (.vwmaccusVX vd a vs2 vm)
  | 0b111111 => .instr (.vwmaccsuVX vd a vs2 vm)
  | _ => .outside

/-- Bits 6:0, the major opcode (R65). -/
def opcodeOf (w : Word32) : BitVec 7 := w.extractLsb' 0 7
/-- Bits 11:7, `vd` (R65). -/
def vdOf (w : Word32) : BitVec 5 := w.extractLsb' 7 5
/-- Bits 14:12, `funct3` (R65). -/
def funct3Of (w : Word32) : BitVec 3 := w.extractLsb' 12 3
/-- Bits 19:15: `vs1`, `rs1`, the immediate or a sub-opcode (R67). -/
def argOf (w : Word32) : BitVec 5 := w.extractLsb' 15 5
/-- Bits 24:20, `vs2` (R65). -/
def vs2Of (w : Word32) : BitVec 5 := w.extractLsb' 20 5
/-- Bit 25, `vm` (R65, R69). -/
def vmOf (w : Word32) : Bool := w.getLsbD 25
/-- Bits 31:26, `funct6` (R65). -/
def funct6Of (w : Word32) : BitVec 6 := w.extractLsb' 26 6

/-- The decoding procedure (R74). -/
def decodeWord (w : Word32) : Decoded :=
  if opcodeOf w = 0x57#7 then
    match (funct3Of w).toNat with
    | 0b000 => decodeOPIVV (funct6Of w).toNat (vmOf w) (vs2Of w) (argOf w) (vdOf w)
    | 0b010 => decodeOPMVV (funct6Of w).toNat (vmOf w) (vs2Of w) (argOf w) (vdOf w)
    | 0b011 => decodeOPIVI (funct6Of w).toNat (vmOf w) (vs2Of w) (argOf w) (vdOf w)
    | 0b100 => decodeOPIVX (funct6Of w).toNat (vmOf w) (vs2Of w) (argOf w) (vdOf w)
    | 0b110 => decodeOPMVX (funct6Of w).toNat (vmOf w) (vs2Of w) (argOf w) (vdOf w)
    | _ => .outside
  else .outside

/-- The word of four bytes, the first in bits 7:0 (R52). -/
def wordOfBytes (b0 b1 b2 b3 : Byte) : Word32 := b3 ++ b2 ++ b1 ++ b0

/-- The four bytes of a word, the lowest address first (R52). -/
def bytesOfWord (w : Word32) : List Byte :=
  [w.extractLsb' 0 8, w.extractLsb' 8 8, w.extractLsb' 16 8, w.extractLsb' 24 8]

/-- Decoding from bytes in memory order: the first four make the word (R52, R65). -/
def decodeBytes : List Byte → Decoded
  | b0 :: b1 :: b2 :: b3 :: _ => decodeWord (wordOfBytes b0 b1 b2 b3)
  | _ => .short

/-- The instruction the decoder reads from an instruction whose bits are `w`, `nbits` of them given and every bit above
zero: laid out as the hardware stores it and decoded from those bytes. -/
def decodeTableWord (nbits w : Nat) : Option Instr :=
  match decodeBytes (bytesOfWord (BitVec.ofNat 32 (w % 2 ^ nbits))) with
  | .instr i => some i
  | _ => none

/-- The vector arithmetic format of R65: `funct6`, `vm`, `vs2`, bits 19:15, `funct3`, `vd`, opcode 0x57. -/
def pack (funct6 : BitVec 6) (vm : Bool) (vs2 a : BitVec 5) (funct3 : BitVec 3) (vd : BitVec 5) : Word32 :=
  funct6 ++ BitVec.ofBool vm ++ vs2 ++ a ++ funct3 ++ vd ++ 0x57#7

/-- The word of an instruction (R70 to R73). -/
def encode : Instr → Word32
  | .vaddVV vd vs2 vs1 vm => pack 0b000000 vm vs2 vs1 0b000 vd
  | .vaddVX vd vs2 rs1 vm => pack 0b000000 vm vs2 rs1 0b100 vd
  | .vaddVI vd vs2 imm vm => pack 0b000000 vm vs2 imm 0b011 vd
  | .vsubVV vd vs2 vs1 vm => pack 0b000010 vm vs2 vs1 0b000 vd
  | .vsubVX vd vs2 rs1 vm => pack 0b000010 vm vs2 rs1 0b100 vd
  | .vrsubVX vd vs2 rs1 vm => pack 0b000011 vm vs2 rs1 0b100 vd
  | .vrsubVI vd vs2 imm vm => pack 0b000011 vm vs2 imm 0b011 vd
  | .vwadduVV vd vs2 vs1 vm => pack 0b110000 vm vs2 vs1 0b010 vd
  | .vwadduVX vd vs2 rs1 vm => pack 0b110000 vm vs2 rs1 0b110 vd
  | .vwsubuVV vd vs2 vs1 vm => pack 0b110010 vm vs2 vs1 0b010 vd
  | .vwsubuVX vd vs2 rs1 vm => pack 0b110010 vm vs2 rs1 0b110 vd
  | .vwaddVV vd vs2 vs1 vm => pack 0b110001 vm vs2 vs1 0b010 vd
  | .vwaddVX vd vs2 rs1 vm => pack 0b110001 vm vs2 rs1 0b110 vd
  | .vwsubVV vd vs2 vs1 vm => pack 0b110011 vm vs2 vs1 0b010 vd
  | .vwsubVX vd vs2 rs1 vm => pack 0b110011 vm vs2 rs1 0b110 vd
  | .vwadduWV vd vs2 vs1 vm => pack 0b110100 vm vs2 vs1 0b010 vd
  | .vwadduWX vd vs2 rs1 vm => pack 0b110100 vm vs2 rs1 0b110 vd
  | .vwsubuWV vd vs2 vs1 vm => pack 0b110110 vm vs2 vs1 0b010 vd
  | .vwsubuWX vd vs2 rs1 vm => pack 0b110110 vm vs2 rs1 0b110 vd
  | .vwaddWV vd vs2 vs1 vm => pack 0b110101 vm vs2 vs1 0b010 vd
  | .vwaddWX vd vs2 rs1 vm => pack 0b110101 vm vs2 rs1 0b110 vd
  | .vwsubWV vd vs2 vs1 vm => pack 0b110111 vm vs2 vs1 0b010 vd
  | .vwsubWX vd vs2 rs1 vm => pack 0b110111 vm vs2 rs1 0b110 vd
  | .vzextVF2 vd vs2 vm => pack 0b010010 vm vs2 0b00110 0b010 vd
  | .vsextVF2 vd vs2 vm => pack 0b010010 vm vs2 0b00111 0b010 vd
  | .vzextVF4 vd vs2 vm => pack 0b010010 vm vs2 0b00100 0b010 vd
  | .vsextVF4 vd vs2 vm => pack 0b010010 vm vs2 0b00101 0b010 vd
  | .vzextVF8 vd vs2 vm => pack 0b010010 vm vs2 0b00010 0b010 vd
  | .vsextVF8 vd vs2 vm => pack 0b010010 vm vs2 0b00011 0b010 vd
  | .vadcVVM vd vs2 vs1 => pack 0b010000 false vs2 vs1 0b000 vd
  | .vadcVXM vd vs2 rs1 => pack 0b010000 false vs2 rs1 0b100 vd
  | .vadcVIM vd vs2 imm => pack 0b010000 false vs2 imm 0b011 vd
  | .vmadcVVM vd vs2 vs1 => pack 0b010001 false vs2 vs1 0b000 vd
  | .vmadcVXM vd vs2 rs1 => pack 0b010001 false vs2 rs1 0b100 vd
  | .vmadcVIM vd vs2 imm => pack 0b010001 false vs2 imm 0b011 vd
  | .vmadcVV vd vs2 vs1 => pack 0b010001 true vs2 vs1 0b000 vd
  | .vmadcVX vd vs2 rs1 => pack 0b010001 true vs2 rs1 0b100 vd
  | .vmadcVI vd vs2 imm => pack 0b010001 true vs2 imm 0b011 vd
  | .vsbcVVM vd vs2 vs1 => pack 0b010010 false vs2 vs1 0b000 vd
  | .vsbcVXM vd vs2 rs1 => pack 0b010010 false vs2 rs1 0b100 vd
  | .vmsbcVVM vd vs2 vs1 => pack 0b010011 false vs2 vs1 0b000 vd
  | .vmsbcVXM vd vs2 rs1 => pack 0b010011 false vs2 rs1 0b100 vd
  | .vmsbcVV vd vs2 vs1 => pack 0b010011 true vs2 vs1 0b000 vd
  | .vmsbcVX vd vs2 rs1 => pack 0b010011 true vs2 rs1 0b100 vd
  | .vandVV vd vs2 vs1 vm => pack 0b001001 vm vs2 vs1 0b000 vd
  | .vandVX vd vs2 rs1 vm => pack 0b001001 vm vs2 rs1 0b100 vd
  | .vandVI vd vs2 imm vm => pack 0b001001 vm vs2 imm 0b011 vd
  | .vorVV vd vs2 vs1 vm => pack 0b001010 vm vs2 vs1 0b000 vd
  | .vorVX vd vs2 rs1 vm => pack 0b001010 vm vs2 rs1 0b100 vd
  | .vorVI vd vs2 imm vm => pack 0b001010 vm vs2 imm 0b011 vd
  | .vxorVV vd vs2 vs1 vm => pack 0b001011 vm vs2 vs1 0b000 vd
  | .vxorVX vd vs2 rs1 vm => pack 0b001011 vm vs2 rs1 0b100 vd
  | .vxorVI vd vs2 imm vm => pack 0b001011 vm vs2 imm 0b011 vd
  | .vsllVV vd vs2 vs1 vm => pack 0b100101 vm vs2 vs1 0b000 vd
  | .vsllVX vd vs2 rs1 vm => pack 0b100101 vm vs2 rs1 0b100 vd
  | .vsllVI vd vs2 uimm vm => pack 0b100101 vm vs2 uimm 0b011 vd
  | .vsrlVV vd vs2 vs1 vm => pack 0b101000 vm vs2 vs1 0b000 vd
  | .vsrlVX vd vs2 rs1 vm => pack 0b101000 vm vs2 rs1 0b100 vd
  | .vsrlVI vd vs2 uimm vm => pack 0b101000 vm vs2 uimm 0b011 vd
  | .vsraVV vd vs2 vs1 vm => pack 0b101001 vm vs2 vs1 0b000 vd
  | .vsraVX vd vs2 rs1 vm => pack 0b101001 vm vs2 rs1 0b100 vd
  | .vsraVI vd vs2 uimm vm => pack 0b101001 vm vs2 uimm 0b011 vd
  | .vnsrlWV vd vs2 vs1 vm => pack 0b101100 vm vs2 vs1 0b000 vd
  | .vnsrlWX vd vs2 rs1 vm => pack 0b101100 vm vs2 rs1 0b100 vd
  | .vnsrlWI vd vs2 uimm vm => pack 0b101100 vm vs2 uimm 0b011 vd
  | .vnsraWV vd vs2 vs1 vm => pack 0b101101 vm vs2 vs1 0b000 vd
  | .vnsraWX vd vs2 rs1 vm => pack 0b101101 vm vs2 rs1 0b100 vd
  | .vnsraWI vd vs2 uimm vm => pack 0b101101 vm vs2 uimm 0b011 vd
  | .vmseqVV vd vs2 vs1 vm => pack 0b011000 vm vs2 vs1 0b000 vd
  | .vmseqVX vd vs2 rs1 vm => pack 0b011000 vm vs2 rs1 0b100 vd
  | .vmseqVI vd vs2 imm vm => pack 0b011000 vm vs2 imm 0b011 vd
  | .vmsneVV vd vs2 vs1 vm => pack 0b011001 vm vs2 vs1 0b000 vd
  | .vmsneVX vd vs2 rs1 vm => pack 0b011001 vm vs2 rs1 0b100 vd
  | .vmsneVI vd vs2 imm vm => pack 0b011001 vm vs2 imm 0b011 vd
  | .vmsltuVV vd vs2 vs1 vm => pack 0b011010 vm vs2 vs1 0b000 vd
  | .vmsltuVX vd vs2 rs1 vm => pack 0b011010 vm vs2 rs1 0b100 vd
  | .vmsltVV vd vs2 vs1 vm => pack 0b011011 vm vs2 vs1 0b000 vd
  | .vmsltVX vd vs2 rs1 vm => pack 0b011011 vm vs2 rs1 0b100 vd
  | .vmsleuVV vd vs2 vs1 vm => pack 0b011100 vm vs2 vs1 0b000 vd
  | .vmsleuVX vd vs2 rs1 vm => pack 0b011100 vm vs2 rs1 0b100 vd
  | .vmsleuVI vd vs2 imm vm => pack 0b011100 vm vs2 imm 0b011 vd
  | .vmsleVV vd vs2 vs1 vm => pack 0b011101 vm vs2 vs1 0b000 vd
  | .vmsleVX vd vs2 rs1 vm => pack 0b011101 vm vs2 rs1 0b100 vd
  | .vmsleVI vd vs2 imm vm => pack 0b011101 vm vs2 imm 0b011 vd
  | .vmsgtuVX vd vs2 rs1 vm => pack 0b011110 vm vs2 rs1 0b100 vd
  | .vmsgtuVI vd vs2 imm vm => pack 0b011110 vm vs2 imm 0b011 vd
  | .vmsgtVX vd vs2 rs1 vm => pack 0b011111 vm vs2 rs1 0b100 vd
  | .vmsgtVI vd vs2 imm vm => pack 0b011111 vm vs2 imm 0b011 vd
  | .vminuVV vd vs2 vs1 vm => pack 0b000100 vm vs2 vs1 0b000 vd
  | .vminuVX vd vs2 rs1 vm => pack 0b000100 vm vs2 rs1 0b100 vd
  | .vminVV vd vs2 vs1 vm => pack 0b000101 vm vs2 vs1 0b000 vd
  | .vminVX vd vs2 rs1 vm => pack 0b000101 vm vs2 rs1 0b100 vd
  | .vmaxuVV vd vs2 vs1 vm => pack 0b000110 vm vs2 vs1 0b000 vd
  | .vmaxuVX vd vs2 rs1 vm => pack 0b000110 vm vs2 rs1 0b100 vd
  | .vmaxVV vd vs2 vs1 vm => pack 0b000111 vm vs2 vs1 0b000 vd
  | .vmaxVX vd vs2 rs1 vm => pack 0b000111 vm vs2 rs1 0b100 vd
  | .vmulVV vd vs2 vs1 vm => pack 0b100101 vm vs2 vs1 0b010 vd
  | .vmulVX vd vs2 rs1 vm => pack 0b100101 vm vs2 rs1 0b110 vd
  | .vmulhVV vd vs2 vs1 vm => pack 0b100111 vm vs2 vs1 0b010 vd
  | .vmulhVX vd vs2 rs1 vm => pack 0b100111 vm vs2 rs1 0b110 vd
  | .vmulhuVV vd vs2 vs1 vm => pack 0b100100 vm vs2 vs1 0b010 vd
  | .vmulhuVX vd vs2 rs1 vm => pack 0b100100 vm vs2 rs1 0b110 vd
  | .vmulhsuVV vd vs2 vs1 vm => pack 0b100110 vm vs2 vs1 0b010 vd
  | .vmulhsuVX vd vs2 rs1 vm => pack 0b100110 vm vs2 rs1 0b110 vd
  | .vdivuVV vd vs2 vs1 vm => pack 0b100000 vm vs2 vs1 0b010 vd
  | .vdivuVX vd vs2 rs1 vm => pack 0b100000 vm vs2 rs1 0b110 vd
  | .vdivVV vd vs2 vs1 vm => pack 0b100001 vm vs2 vs1 0b010 vd
  | .vdivVX vd vs2 rs1 vm => pack 0b100001 vm vs2 rs1 0b110 vd
  | .vremuVV vd vs2 vs1 vm => pack 0b100010 vm vs2 vs1 0b010 vd
  | .vremuVX vd vs2 rs1 vm => pack 0b100010 vm vs2 rs1 0b110 vd
  | .vremVV vd vs2 vs1 vm => pack 0b100011 vm vs2 vs1 0b010 vd
  | .vremVX vd vs2 rs1 vm => pack 0b100011 vm vs2 rs1 0b110 vd
  | .vwmulVV vd vs2 vs1 vm => pack 0b111011 vm vs2 vs1 0b010 vd
  | .vwmulVX vd vs2 rs1 vm => pack 0b111011 vm vs2 rs1 0b110 vd
  | .vwmuluVV vd vs2 vs1 vm => pack 0b111000 vm vs2 vs1 0b010 vd
  | .vwmuluVX vd vs2 rs1 vm => pack 0b111000 vm vs2 rs1 0b110 vd
  | .vwmulsuVV vd vs2 vs1 vm => pack 0b111010 vm vs2 vs1 0b010 vd
  | .vwmulsuVX vd vs2 rs1 vm => pack 0b111010 vm vs2 rs1 0b110 vd
  | .vmaccVV vd vs1 vs2 vm => pack 0b101101 vm vs2 vs1 0b010 vd
  | .vmaccVX vd rs1 vs2 vm => pack 0b101101 vm vs2 rs1 0b110 vd
  | .vnmsacVV vd vs1 vs2 vm => pack 0b101111 vm vs2 vs1 0b010 vd
  | .vnmsacVX vd rs1 vs2 vm => pack 0b101111 vm vs2 rs1 0b110 vd
  | .vmaddVV vd vs1 vs2 vm => pack 0b101001 vm vs2 vs1 0b010 vd
  | .vmaddVX vd rs1 vs2 vm => pack 0b101001 vm vs2 rs1 0b110 vd
  | .vnmsubVV vd vs1 vs2 vm => pack 0b101011 vm vs2 vs1 0b010 vd
  | .vnmsubVX vd rs1 vs2 vm => pack 0b101011 vm vs2 rs1 0b110 vd
  | .vwmaccuVV vd vs1 vs2 vm => pack 0b111100 vm vs2 vs1 0b010 vd
  | .vwmaccuVX vd rs1 vs2 vm => pack 0b111100 vm vs2 rs1 0b110 vd
  | .vwmaccVV vd vs1 vs2 vm => pack 0b111101 vm vs2 vs1 0b010 vd
  | .vwmaccVX vd rs1 vs2 vm => pack 0b111101 vm vs2 rs1 0b110 vd
  | .vwmaccsuVV vd vs1 vs2 vm => pack 0b111111 vm vs2 vs1 0b010 vd
  | .vwmaccsuVX vd rs1 vs2 vm => pack 0b111111 vm vs2 rs1 0b110 vd
  | .vwmaccusVX vd rs1 vs2 vm => pack 0b111110 vm vs2 rs1 0b110 vd
  | .vmergeVVM vd vs2 vs1 => pack 0b010111 false vs2 vs1 0b000 vd
  | .vmergeVXM vd vs2 rs1 => pack 0b010111 false vs2 rs1 0b100 vd
  | .vmergeVIM vd vs2 imm => pack 0b010111 false vs2 imm 0b011 vd
  | .vmvVV vd vs1 => pack 0b010111 true 0 vs1 0b000 vd
  | .vmvVX vd rs1 => pack 0b010111 true 0 rs1 0b100 vd
  | .vmvVI vd imm => pack 0b010111 true 0 imm 0b011 vd

/-- One row of the opcode table (R73). -/
structure OpcodeRow where
  mnemonic : String
  pattern : Word32
  mask : Word32
deriving DecidableEq, Repr

/-- R73: a word is the instruction of a row when its bits under the mask are the row's pattern. -/
def OpcodeRow.matchesWord (r : OpcodeRow) (w : Word32) : Bool := w &&& r.mask == r.pattern

/-- The rows of spec/opcode_table.json: Single-width and widening add and subtract (41_add_sub.md, R140 to R167). -/
def opcodeRowsAddSub : List OpcodeRow := [
  ⟨"vadd.vv", 0x00000057#32, 0xFC00707F#32⟩,
  ⟨"vadd.vx", 0x00004057#32, 0xFC00707F#32⟩,
  ⟨"vadd.vi", 0x00003057#32, 0xFC00707F#32⟩,
  ⟨"vsub.vv", 0x08000057#32, 0xFC00707F#32⟩,
  ⟨"vsub.vx", 0x08004057#32, 0xFC00707F#32⟩,
  ⟨"vrsub.vx", 0x0C004057#32, 0xFC00707F#32⟩,
  ⟨"vrsub.vi", 0x0C003057#32, 0xFC00707F#32⟩,
  ⟨"vwaddu.vv", 0xC0002057#32, 0xFC00707F#32⟩,
  ⟨"vwaddu.vx", 0xC0006057#32, 0xFC00707F#32⟩,
  ⟨"vwsubu.vv", 0xC8002057#32, 0xFC00707F#32⟩,
  ⟨"vwsubu.vx", 0xC8006057#32, 0xFC00707F#32⟩,
  ⟨"vwadd.vv", 0xC4002057#32, 0xFC00707F#32⟩,
  ⟨"vwadd.vx", 0xC4006057#32, 0xFC00707F#32⟩,
  ⟨"vwsub.vv", 0xCC002057#32, 0xFC00707F#32⟩,
  ⟨"vwsub.vx", 0xCC006057#32, 0xFC00707F#32⟩,
  ⟨"vwaddu.wv", 0xD0002057#32, 0xFC00707F#32⟩,
  ⟨"vwaddu.wx", 0xD0006057#32, 0xFC00707F#32⟩,
  ⟨"vwsubu.wv", 0xD8002057#32, 0xFC00707F#32⟩,
  ⟨"vwsubu.wx", 0xD8006057#32, 0xFC00707F#32⟩,
  ⟨"vwadd.wv", 0xD4002057#32, 0xFC00707F#32⟩,
  ⟨"vwadd.wx", 0xD4006057#32, 0xFC00707F#32⟩,
  ⟨"vwsub.wv", 0xDC002057#32, 0xFC00707F#32⟩,
  ⟨"vwsub.wx", 0xDC006057#32, 0xFC00707F#32⟩]

/-- The rows of spec/opcode_table.json: Integer extension (42_extension.md, R170 to R177). -/
def opcodeRowsExtension : List OpcodeRow := [
  ⟨"vzext.vf2", 0x48032057#32, 0xFC0FF07F#32⟩,
  ⟨"vsext.vf2", 0x4803A057#32, 0xFC0FF07F#32⟩,
  ⟨"vzext.vf4", 0x48022057#32, 0xFC0FF07F#32⟩,
  ⟨"vsext.vf4", 0x4802A057#32, 0xFC0FF07F#32⟩,
  ⟨"vzext.vf8", 0x48012057#32, 0xFC0FF07F#32⟩,
  ⟨"vsext.vf8", 0x4801A057#32, 0xFC0FF07F#32⟩]

/-- The rows of spec/opcode_table.json: Add-with-carry and subtract-with-borrow (43_carry.md, R180 to R199). -/
def opcodeRowsCarry : List OpcodeRow := [
  ⟨"vadc.vvm", 0x40000057#32, 0xFE00707F#32⟩,
  ⟨"vadc.vxm", 0x40004057#32, 0xFE00707F#32⟩,
  ⟨"vadc.vim", 0x40003057#32, 0xFE00707F#32⟩,
  ⟨"vmadc.vvm", 0x44000057#32, 0xFE00707F#32⟩,
  ⟨"vmadc.vxm", 0x44004057#32, 0xFE00707F#32⟩,
  ⟨"vmadc.vim", 0x44003057#32, 0xFE00707F#32⟩,
  ⟨"vmadc.vv", 0x46000057#32, 0xFE00707F#32⟩,
  ⟨"vmadc.vx", 0x46004057#32, 0xFE00707F#32⟩,
  ⟨"vmadc.vi", 0x46003057#32, 0xFE00707F#32⟩,
  ⟨"vsbc.vvm", 0x48000057#32, 0xFE00707F#32⟩,
  ⟨"vsbc.vxm", 0x48004057#32, 0xFE00707F#32⟩,
  ⟨"vmsbc.vvm", 0x4C000057#32, 0xFE00707F#32⟩,
  ⟨"vmsbc.vxm", 0x4C004057#32, 0xFE00707F#32⟩,
  ⟨"vmsbc.vv", 0x4E000057#32, 0xFE00707F#32⟩,
  ⟨"vmsbc.vx", 0x4E004057#32, 0xFE00707F#32⟩]

/-- The rows of spec/opcode_table.json: Bitwise logical, single-width shift and narrowing right shift (44_logical_shift.md, R200 to R228). -/
def opcodeRowsLogicalShift : List OpcodeRow := [
  ⟨"vand.vv", 0x24000057#32, 0xFC00707F#32⟩,
  ⟨"vand.vx", 0x24004057#32, 0xFC00707F#32⟩,
  ⟨"vand.vi", 0x24003057#32, 0xFC00707F#32⟩,
  ⟨"vor.vv", 0x28000057#32, 0xFC00707F#32⟩,
  ⟨"vor.vx", 0x28004057#32, 0xFC00707F#32⟩,
  ⟨"vor.vi", 0x28003057#32, 0xFC00707F#32⟩,
  ⟨"vxor.vv", 0x2C000057#32, 0xFC00707F#32⟩,
  ⟨"vxor.vx", 0x2C004057#32, 0xFC00707F#32⟩,
  ⟨"vxor.vi", 0x2C003057#32, 0xFC00707F#32⟩,
  ⟨"vsll.vv", 0x94000057#32, 0xFC00707F#32⟩,
  ⟨"vsll.vx", 0x94004057#32, 0xFC00707F#32⟩,
  ⟨"vsll.vi", 0x94003057#32, 0xFC00707F#32⟩,
  ⟨"vsrl.vv", 0xA0000057#32, 0xFC00707F#32⟩,
  ⟨"vsrl.vx", 0xA0004057#32, 0xFC00707F#32⟩,
  ⟨"vsrl.vi", 0xA0003057#32, 0xFC00707F#32⟩,
  ⟨"vsra.vv", 0xA4000057#32, 0xFC00707F#32⟩,
  ⟨"vsra.vx", 0xA4004057#32, 0xFC00707F#32⟩,
  ⟨"vsra.vi", 0xA4003057#32, 0xFC00707F#32⟩,
  ⟨"vnsrl.wv", 0xB0000057#32, 0xFC00707F#32⟩,
  ⟨"vnsrl.wx", 0xB0004057#32, 0xFC00707F#32⟩,
  ⟨"vnsrl.wi", 0xB0003057#32, 0xFC00707F#32⟩,
  ⟨"vnsra.wv", 0xB4000057#32, 0xFC00707F#32⟩,
  ⟨"vnsra.wx", 0xB4004057#32, 0xFC00707F#32⟩,
  ⟨"vnsra.wi", 0xB4003057#32, 0xFC00707F#32⟩]

/-- The rows of spec/opcode_table.json: Integer comparison (45_compare.md, R230 to R254). -/
def opcodeRowsCompare : List OpcodeRow := [
  ⟨"vmseq.vv", 0x60000057#32, 0xFC00707F#32⟩,
  ⟨"vmseq.vx", 0x60004057#32, 0xFC00707F#32⟩,
  ⟨"vmseq.vi", 0x60003057#32, 0xFC00707F#32⟩,
  ⟨"vmsne.vv", 0x64000057#32, 0xFC00707F#32⟩,
  ⟨"vmsne.vx", 0x64004057#32, 0xFC00707F#32⟩,
  ⟨"vmsne.vi", 0x64003057#32, 0xFC00707F#32⟩,
  ⟨"vmsltu.vv", 0x68000057#32, 0xFC00707F#32⟩,
  ⟨"vmsltu.vx", 0x68004057#32, 0xFC00707F#32⟩,
  ⟨"vmslt.vv", 0x6C000057#32, 0xFC00707F#32⟩,
  ⟨"vmslt.vx", 0x6C004057#32, 0xFC00707F#32⟩,
  ⟨"vmsleu.vv", 0x70000057#32, 0xFC00707F#32⟩,
  ⟨"vmsleu.vx", 0x70004057#32, 0xFC00707F#32⟩,
  ⟨"vmsleu.vi", 0x70003057#32, 0xFC00707F#32⟩,
  ⟨"vmsle.vv", 0x74000057#32, 0xFC00707F#32⟩,
  ⟨"vmsle.vx", 0x74004057#32, 0xFC00707F#32⟩,
  ⟨"vmsle.vi", 0x74003057#32, 0xFC00707F#32⟩,
  ⟨"vmsgtu.vx", 0x78004057#32, 0xFC00707F#32⟩,
  ⟨"vmsgtu.vi", 0x78003057#32, 0xFC00707F#32⟩,
  ⟨"vmsgt.vx", 0x7C004057#32, 0xFC00707F#32⟩,
  ⟨"vmsgt.vi", 0x7C003057#32, 0xFC00707F#32⟩]

/-- The rows of spec/opcode_table.json: Minimum and maximum, multiply, divide, widening multiply (46_minmax_mul_div.md, R260 to R297). -/
def opcodeRowsMinMaxMulDiv : List OpcodeRow := [
  ⟨"vminu.vv", 0x10000057#32, 0xFC00707F#32⟩,
  ⟨"vminu.vx", 0x10004057#32, 0xFC00707F#32⟩,
  ⟨"vmin.vv", 0x14000057#32, 0xFC00707F#32⟩,
  ⟨"vmin.vx", 0x14004057#32, 0xFC00707F#32⟩,
  ⟨"vmaxu.vv", 0x18000057#32, 0xFC00707F#32⟩,
  ⟨"vmaxu.vx", 0x18004057#32, 0xFC00707F#32⟩,
  ⟨"vmax.vv", 0x1C000057#32, 0xFC00707F#32⟩,
  ⟨"vmax.vx", 0x1C004057#32, 0xFC00707F#32⟩,
  ⟨"vmul.vv", 0x94002057#32, 0xFC00707F#32⟩,
  ⟨"vmul.vx", 0x94006057#32, 0xFC00707F#32⟩,
  ⟨"vmulh.vv", 0x9C002057#32, 0xFC00707F#32⟩,
  ⟨"vmulh.vx", 0x9C006057#32, 0xFC00707F#32⟩,
  ⟨"vmulhu.vv", 0x90002057#32, 0xFC00707F#32⟩,
  ⟨"vmulhu.vx", 0x90006057#32, 0xFC00707F#32⟩,
  ⟨"vmulhsu.vv", 0x98002057#32, 0xFC00707F#32⟩,
  ⟨"vmulhsu.vx", 0x98006057#32, 0xFC00707F#32⟩,
  ⟨"vdivu.vv", 0x80002057#32, 0xFC00707F#32⟩,
  ⟨"vdivu.vx", 0x80006057#32, 0xFC00707F#32⟩,
  ⟨"vdiv.vv", 0x84002057#32, 0xFC00707F#32⟩,
  ⟨"vdiv.vx", 0x84006057#32, 0xFC00707F#32⟩,
  ⟨"vremu.vv", 0x88002057#32, 0xFC00707F#32⟩,
  ⟨"vremu.vx", 0x88006057#32, 0xFC00707F#32⟩,
  ⟨"vrem.vv", 0x8C002057#32, 0xFC00707F#32⟩,
  ⟨"vrem.vx", 0x8C006057#32, 0xFC00707F#32⟩,
  ⟨"vwmul.vv", 0xEC002057#32, 0xFC00707F#32⟩,
  ⟨"vwmul.vx", 0xEC006057#32, 0xFC00707F#32⟩,
  ⟨"vwmulu.vv", 0xE0002057#32, 0xFC00707F#32⟩,
  ⟨"vwmulu.vx", 0xE0006057#32, 0xFC00707F#32⟩,
  ⟨"vwmulsu.vv", 0xE8002057#32, 0xFC00707F#32⟩,
  ⟨"vwmulsu.vx", 0xE8006057#32, 0xFC00707F#32⟩]

/-- The rows of spec/opcode_table.json: Single-width and widening multiply-add (47_multiply_add.md, R300 to R318). -/
def opcodeRowsMultiplyAdd : List OpcodeRow := [
  ⟨"vmacc.vv", 0xB4002057#32, 0xFC00707F#32⟩,
  ⟨"vmacc.vx", 0xB4006057#32, 0xFC00707F#32⟩,
  ⟨"vnmsac.vv", 0xBC002057#32, 0xFC00707F#32⟩,
  ⟨"vnmsac.vx", 0xBC006057#32, 0xFC00707F#32⟩,
  ⟨"vmadd.vv", 0xA4002057#32, 0xFC00707F#32⟩,
  ⟨"vmadd.vx", 0xA4006057#32, 0xFC00707F#32⟩,
  ⟨"vnmsub.vv", 0xAC002057#32, 0xFC00707F#32⟩,
  ⟨"vnmsub.vx", 0xAC006057#32, 0xFC00707F#32⟩,
  ⟨"vwmaccu.vv", 0xF0002057#32, 0xFC00707F#32⟩,
  ⟨"vwmaccu.vx", 0xF0006057#32, 0xFC00707F#32⟩,
  ⟨"vwmacc.vv", 0xF4002057#32, 0xFC00707F#32⟩,
  ⟨"vwmacc.vx", 0xF4006057#32, 0xFC00707F#32⟩,
  ⟨"vwmaccsu.vv", 0xFC002057#32, 0xFC00707F#32⟩,
  ⟨"vwmaccsu.vx", 0xFC006057#32, 0xFC00707F#32⟩,
  ⟨"vwmaccus.vx", 0xF8006057#32, 0xFC00707F#32⟩]

/-- The rows of spec/opcode_table.json: Merge and move (48_merge_move.md, R320 to R328). -/
def opcodeRowsMergeMove : List OpcodeRow := [
  ⟨"vmerge.vvm", 0x5C000057#32, 0xFE00707F#32⟩,
  ⟨"vmerge.vxm", 0x5C004057#32, 0xFE00707F#32⟩,
  ⟨"vmerge.vim", 0x5C003057#32, 0xFE00707F#32⟩,
  ⟨"vmv.v.v", 0x5E000057#32, 0xFFF0707F#32⟩,
  ⟨"vmv.v.x", 0x5E004057#32, 0xFFF0707F#32⟩,
  ⟨"vmv.v.i", 0x5E003057#32, 0xFFF0707F#32⟩]

/-- The opcode table (R73), 139 rows. -/
def opcodeTable : List OpcodeRow :=
  opcodeRowsAddSub ++ opcodeRowsExtension ++ opcodeRowsCarry ++ opcodeRowsLogicalShift ++
  opcodeRowsCompare ++ opcodeRowsMinMaxMulDiv ++ opcodeRowsMultiplyAdd ++ opcodeRowsMergeMove

/-- The mnemonic of an instruction, as spec/opcode_table.json writes it. -/
def Instr.mnemonic : Instr → String
  | .vaddVV .. => "vadd.vv"
  | .vaddVX .. => "vadd.vx"
  | .vaddVI .. => "vadd.vi"
  | .vsubVV .. => "vsub.vv"
  | .vsubVX .. => "vsub.vx"
  | .vrsubVX .. => "vrsub.vx"
  | .vrsubVI .. => "vrsub.vi"
  | .vwadduVV .. => "vwaddu.vv"
  | .vwadduVX .. => "vwaddu.vx"
  | .vwsubuVV .. => "vwsubu.vv"
  | .vwsubuVX .. => "vwsubu.vx"
  | .vwaddVV .. => "vwadd.vv"
  | .vwaddVX .. => "vwadd.vx"
  | .vwsubVV .. => "vwsub.vv"
  | .vwsubVX .. => "vwsub.vx"
  | .vwadduWV .. => "vwaddu.wv"
  | .vwadduWX .. => "vwaddu.wx"
  | .vwsubuWV .. => "vwsubu.wv"
  | .vwsubuWX .. => "vwsubu.wx"
  | .vwaddWV .. => "vwadd.wv"
  | .vwaddWX .. => "vwadd.wx"
  | .vwsubWV .. => "vwsub.wv"
  | .vwsubWX .. => "vwsub.wx"
  | .vzextVF2 .. => "vzext.vf2"
  | .vsextVF2 .. => "vsext.vf2"
  | .vzextVF4 .. => "vzext.vf4"
  | .vsextVF4 .. => "vsext.vf4"
  | .vzextVF8 .. => "vzext.vf8"
  | .vsextVF8 .. => "vsext.vf8"
  | .vadcVVM .. => "vadc.vvm"
  | .vadcVXM .. => "vadc.vxm"
  | .vadcVIM .. => "vadc.vim"
  | .vmadcVVM .. => "vmadc.vvm"
  | .vmadcVXM .. => "vmadc.vxm"
  | .vmadcVIM .. => "vmadc.vim"
  | .vmadcVV .. => "vmadc.vv"
  | .vmadcVX .. => "vmadc.vx"
  | .vmadcVI .. => "vmadc.vi"
  | .vsbcVVM .. => "vsbc.vvm"
  | .vsbcVXM .. => "vsbc.vxm"
  | .vmsbcVVM .. => "vmsbc.vvm"
  | .vmsbcVXM .. => "vmsbc.vxm"
  | .vmsbcVV .. => "vmsbc.vv"
  | .vmsbcVX .. => "vmsbc.vx"
  | .vandVV .. => "vand.vv"
  | .vandVX .. => "vand.vx"
  | .vandVI .. => "vand.vi"
  | .vorVV .. => "vor.vv"
  | .vorVX .. => "vor.vx"
  | .vorVI .. => "vor.vi"
  | .vxorVV .. => "vxor.vv"
  | .vxorVX .. => "vxor.vx"
  | .vxorVI .. => "vxor.vi"
  | .vsllVV .. => "vsll.vv"
  | .vsllVX .. => "vsll.vx"
  | .vsllVI .. => "vsll.vi"
  | .vsrlVV .. => "vsrl.vv"
  | .vsrlVX .. => "vsrl.vx"
  | .vsrlVI .. => "vsrl.vi"
  | .vsraVV .. => "vsra.vv"
  | .vsraVX .. => "vsra.vx"
  | .vsraVI .. => "vsra.vi"
  | .vnsrlWV .. => "vnsrl.wv"
  | .vnsrlWX .. => "vnsrl.wx"
  | .vnsrlWI .. => "vnsrl.wi"
  | .vnsraWV .. => "vnsra.wv"
  | .vnsraWX .. => "vnsra.wx"
  | .vnsraWI .. => "vnsra.wi"
  | .vmseqVV .. => "vmseq.vv"
  | .vmseqVX .. => "vmseq.vx"
  | .vmseqVI .. => "vmseq.vi"
  | .vmsneVV .. => "vmsne.vv"
  | .vmsneVX .. => "vmsne.vx"
  | .vmsneVI .. => "vmsne.vi"
  | .vmsltuVV .. => "vmsltu.vv"
  | .vmsltuVX .. => "vmsltu.vx"
  | .vmsltVV .. => "vmslt.vv"
  | .vmsltVX .. => "vmslt.vx"
  | .vmsleuVV .. => "vmsleu.vv"
  | .vmsleuVX .. => "vmsleu.vx"
  | .vmsleuVI .. => "vmsleu.vi"
  | .vmsleVV .. => "vmsle.vv"
  | .vmsleVX .. => "vmsle.vx"
  | .vmsleVI .. => "vmsle.vi"
  | .vmsgtuVX .. => "vmsgtu.vx"
  | .vmsgtuVI .. => "vmsgtu.vi"
  | .vmsgtVX .. => "vmsgt.vx"
  | .vmsgtVI .. => "vmsgt.vi"
  | .vminuVV .. => "vminu.vv"
  | .vminuVX .. => "vminu.vx"
  | .vminVV .. => "vmin.vv"
  | .vminVX .. => "vmin.vx"
  | .vmaxuVV .. => "vmaxu.vv"
  | .vmaxuVX .. => "vmaxu.vx"
  | .vmaxVV .. => "vmax.vv"
  | .vmaxVX .. => "vmax.vx"
  | .vmulVV .. => "vmul.vv"
  | .vmulVX .. => "vmul.vx"
  | .vmulhVV .. => "vmulh.vv"
  | .vmulhVX .. => "vmulh.vx"
  | .vmulhuVV .. => "vmulhu.vv"
  | .vmulhuVX .. => "vmulhu.vx"
  | .vmulhsuVV .. => "vmulhsu.vv"
  | .vmulhsuVX .. => "vmulhsu.vx"
  | .vdivuVV .. => "vdivu.vv"
  | .vdivuVX .. => "vdivu.vx"
  | .vdivVV .. => "vdiv.vv"
  | .vdivVX .. => "vdiv.vx"
  | .vremuVV .. => "vremu.vv"
  | .vremuVX .. => "vremu.vx"
  | .vremVV .. => "vrem.vv"
  | .vremVX .. => "vrem.vx"
  | .vwmulVV .. => "vwmul.vv"
  | .vwmulVX .. => "vwmul.vx"
  | .vwmuluVV .. => "vwmulu.vv"
  | .vwmuluVX .. => "vwmulu.vx"
  | .vwmulsuVV .. => "vwmulsu.vv"
  | .vwmulsuVX .. => "vwmulsu.vx"
  | .vmaccVV .. => "vmacc.vv"
  | .vmaccVX .. => "vmacc.vx"
  | .vnmsacVV .. => "vnmsac.vv"
  | .vnmsacVX .. => "vnmsac.vx"
  | .vmaddVV .. => "vmadd.vv"
  | .vmaddVX .. => "vmadd.vx"
  | .vnmsubVV .. => "vnmsub.vv"
  | .vnmsubVX .. => "vnmsub.vx"
  | .vwmaccuVV .. => "vwmaccu.vv"
  | .vwmaccuVX .. => "vwmaccu.vx"
  | .vwmaccVV .. => "vwmacc.vv"
  | .vwmaccVX .. => "vwmacc.vx"
  | .vwmaccsuVV .. => "vwmaccsu.vv"
  | .vwmaccsuVX .. => "vwmaccsu.vx"
  | .vwmaccusVX .. => "vwmaccus.vx"
  | .vmergeVVM .. => "vmerge.vvm"
  | .vmergeVXM .. => "vmerge.vxm"
  | .vmergeVIM .. => "vmerge.vim"
  | .vmvVV .. => "vmv.v.v"
  | .vmvVX .. => "vmv.v.x"
  | .vmvVI .. => "vmv.v.i"

end Sys2Proof
end

