-- ==== Sys2Proof/Config.lean ====
section
/-! DEFINITION. What an implementation fixes, and what the spec leaves free (00_scope.md R5 to R9).
The parameters are plain data, carried by a field of State that no step writes, so a statement about every state
holds for every implementation (log 1). The agnostic oracle `AGN` is a constant without a body: nothing can be
proved of the choices it makes (R9, R14, R110; log 5). -/

namespace Sys2Proof

/-- The two scalar register widths (R5). -/
inductive XLen where
  | x32
  | x64
deriving DecidableEq, Repr

/-- The four largest element widths an implementation may support (R7). -/
inductive ELen where
  | e8
  | e16
  | e32
  | e64
deriving DecidableEq, Repr

/-- The parameters of one implementation (R5, R6, R7, R9). -/
structure Config where
  /-- `XLEN` (R5). -/
  xlen : XLen
  /-- The base-2 logarithm of `VLEN`: `VLEN` is a power of two, at most 65536 (R6). -/
  lgVlen : Fin 17
  /-- `ELEN` (R7). -/
  elen : ELen
  /-- `VSTART_TRAP`: a non-zero `vstart` raises IllegalInstruction (R9, R104). -/
  vstartTrap : Bool
deriving DecidableEq, Repr

/-- One choice of the agnostic oracle for one destination element (R110, R111): the old value, all ones, or (a
tail bit of a mask destination, below `VLMAX`) the value the instruction would have computed. -/
inductive Draw where
  | keep
  | ones
  | computed
deriving DecidableEq, Repr, Inhabited

/-- The oracle `AGN` (R9): the choice made for the element of the second argument in the execution counted by the
first. It has no body, so every statement holds for every oracle (log 5). -/
opaque Config.agn : Nat → Nat → Draw

end Sys2Proof
end

