-- ==== Sys2Proof/Machine/State.lean ====
section
/-! DEFINITION. The state of the machine (10_state.md R20 to R42), the reasons a step can stop, and the state right
after reset. State is plain data. INVENTORY.md lists every field with its rule and its reset value. -/

namespace Sys2Proof.Machine

/-- The five fields of `vtype` (R28). Bits `XLEN-2` to 8 are reserved and read zero; they are not stored (log 15). -/
structure Vtype where
  /-- `vtype[XLEN-1]` (R31). -/
  vill : Bool
  /-- `vtype[7]` (R34). -/
  vma : Bool
  /-- `vtype[6]` (R34). -/
  vta : Bool
  /-- `vtype[5:3]` (R29). -/
  vsew : BitVec 3
  /-- `vtype[2:0]` (R29). -/
  vlmul : BitVec 3
deriving DecidableEq, Repr

/-- The vector context status `mstatus.VS` (R38). -/
inductive VS where
  | off
  | initial
  | clean
  | dirty
deriving DecidableEq, Repr

/-- Everything the spec gives the hart, with the implementation's parameters and the model's own draw counter. -/
structure State where
  /-- The parameters (R5 to R9); no step writes them (log 1). -/
  cfg : Config
  /-- `x[0]` to `x[31]`, each in the low `XLEN` bits (R20). -/
  x : Vector XWord 32
  /-- The program counter, in the low `XLEN` bits (R22). -/
  pc : XWord
  /-- `v[0]` to `v[31]`, each in the low `VLEN` bits (R23). -/
  v : Vector VWord 32
  /-- `vtype` (R28). -/
  vtype : Vtype
  /-- `vl` (R32). -/
  vl : XWord
  /-- `vstart` (R33). -/
  vstart : XWord
  /-- `vxrm` (R35). -/
  vxrm : BitVec 2
  /-- `vxsat` (R35). -/
  vxsat : BitVec 1
  /-- `mstatus.VS` (R38; log 4). -/
  vs : VS
  /-- The program text: the bytes that exist, addresses strictly rising (R51, R52, R352; log 6). -/
  mem : List Host.Cell
  /-- The model's own: how many executions the agnostic oracle has been asked about (R9, R110; log 5). -/
  draws : Nat
deriving DecidableEq, Repr

/-- The one exception of the in-scope instructions (R330), which ends the run (R334; log 9). -/
inductive Fault where
  /-- Raised by `raise` alone, for the causes of R331, before any state changes; it carries the instruction word
  (R14, R332). Safe: no final state, so nothing is proved of a run that reaches it (D7, D21). -/
  | illegalInstruction (instr : BitVec 32)
deriving DecidableEq, Repr

/-- Where the model gives no meaning and claims nothing. -/
inductive Refusal where
  /-- An arm of `exec` whose instruction has no meaning yet. Safe. -/
  | notModelled (mnemonic : String)
  /-- Raised by `step`: the word at `pc` is outside the spec (R89, R19; D20). Safe. -/
  | outsideTable (word : BitVec 32)
  /-- Raised by the fetch: no program text at `pc` (R19; log 6). Where `pc` is the end of the text, the run has
  succeeded. Safe. -/
  | endOfText
  /-- Raised by the fetch: `pc` is not a multiple of four, which no run reaches (R54; D11; log 7). Safe. -/
  | misalignedPc
  /-- Raised by every meaning: `vtype`, `vl` or `vstart` break the invariants of R41, so the spec gives the state no
  meaning (D13; log 8). Safe. -/
  | launchState
deriving DecidableEq, Repr

/-- The machine right after reset (R40, R350). The spec gives no value but `x[0] = 0`; every other value is the
model's own (log 1, log 3, log 4, log 5, log 6). -/
def State.reset : State where
  cfg := ⟨.x64, 7, .e64, false⟩
  x := Vector.replicate 32 0
  pc := 0
  v := Vector.replicate 32 0
  vtype := ⟨false, false, false, 0, 0⟩
  vl := 0
  vstart := 0
  vxrm := 0
  vxsat := 0
  vs := .initial
  mem := []
  draws := 0

end Sys2Proof.Machine
end

