-- ==== Sys2Proof/Machine/Ops.lean ====
section
/-! DEFINITION. The named operations over registers, program text and control state, and the one way an instruction
raises its exception (00_scope.md R11 to R14; 10_state.md R20 to R37; 20_memory.md R51, R52). -/

namespace Sys2Proof.Machine

/-- What a step, and each meaning, answers. -/
abbrev Result := Host.Outcome State Fault Refusal

/-- `XLEN` (R5). -/
def State.xbits (s : State) : Nat :=
  match s.cfg.xlen with
  | .x32 => 32
  | .x64 => 64

/-- `VLEN` (R6). -/
def State.vlen (s : State) : Nat := 2 ^ s.cfg.lgVlen.val

/-- `ELEN` (R7). -/
def State.elen (s : State) : Nat :=
  match s.cfg.elen with
  | .e8 => 8
  | .e16 => 16
  | .e32 => 32
  | .e64 => 64

/-! ### Scalar registers and the program counter -/

/-- The low `XLEN` bits of a value, as a register holds them. -/
def State.toXlen (s : State) (a : XWord) : XWord := BitVec.ofNat 64 (a.toNat % 2 ^ s.xbits)

/-- Reading `x[r]`: `x[0]` reads as zero (R20). -/
def State.readX (s : State) (r : RegNum) : XWord :=
  if r = 0 then 0 else s.toXlen (s.x[r.toNat]'r.isLt)

/-- Writing `x[r]`: a write of `x[0]` is discarded (R20). No in-scope instruction writes an `x` register (R42); the
operation is how a launch state is built. -/
def State.writeX (s : State) (r : RegNum) (a : XWord) : State :=
  if r = 0 then s else { s with x := s.x.set r.toNat (s.toXlen a) r.isLt }

/-- The address of the instruction (R22). -/
def State.pcAddr (s : State) : Nat := s.pc.toNat % 2 ^ s.xbits

/-- `pc + 4`, modulo `2^XLEN` (R22). -/
def State.nextPc (s : State) : XWord := s.toXlen (s.pc + 4)

/-! ### Program text -/

/-- The byte at an address; an unlisted address holds none (R56; log 6). -/
def Memory.read : List Host.Cell → Nat → Option Byte
  | [], _ => none
  | (k, b) :: rest, a => if a = k then some b else Memory.read rest a

/-- Putting a byte at an address, keeping the addresses rising. -/
def Memory.write : List Host.Cell → Nat → Byte → List Host.Cell
  | [], a, b => [(a, b)]
  | (k, c) :: rest, a, b =>
    if a < k then (a, b) :: (k, c) :: rest
    else if a = k then (a, b) :: rest
    else (k, c) :: Memory.write rest a b

/-- Putting bytes at consecutive addresses from the first upwards. -/
def Memory.writeBytes : List Host.Cell → Nat → List Byte → List Host.Cell
  | m, _, [] => m
  | m, a, b :: bs => Memory.writeBytes (Memory.write m a b) (a + 1) bs

/-- The canonical form: addresses strictly rising. No entry can equal what an unlisted address reads as, since that is
no byte. -/
def Memory.wf : List Host.Cell → Bool
  | [] => true
  | [_] => true
  | (k, _) :: (k', c) :: rest => k < k' && Memory.wf ((k', c) :: rest)

/-- The byte of the address space at an address (R51). -/
def State.readByte (s : State) (a : Nat) : Option Byte := Memory.read s.mem a

/-- Placing one word at an address, little-endian (R52). -/
def State.storeWord (s : State) (a : Nat) (w : Word32) : State :=
  { s with mem := Memory.writeBytes s.mem a (bytesOfWord w) }

/-- Placing program text at consecutive addresses from `base` (R19, R352). -/
def State.loadText : State → Nat → List Word32 → State
  | s, _, [] => s
  | s, base, w :: ws => State.loadText (s.storeWord base w) (base + 4) ws

/-- Fetching the instruction at `pc`: four bytes, little-endian (R52), at a 4-byte-aligned address (R54). -/
def State.fetch (s : State) : Except Refusal Word32 :=
  if s.pcAddr % 4 = 0 then
    match s.readByte s.pcAddr, s.readByte (s.pcAddr + 1), s.readByte (s.pcAddr + 2), s.readByte (s.pcAddr + 3) with
    | some b0, some b1, some b2, some b3 => .ok (wordOfBytes b0 b1 b2 b3)
    | _, _, _, _ => .error .endOfText
  else .error .misalignedPc

/-! ### Vector registers -/

/-- `v[r]` of a register file; an index above 31 names no register and reads zero. -/
def regOf (v : Vector VWord 32) (r : Nat) : VWord := (v[r]?).getD 0

/-- Replacing the `w` bits of a register from bit `off` upwards. -/
def setField (x : VWord) (off : Nat) {w : Nat} (val : BitVec w) : VWord :=
  (x &&& ~~~((BitVec.allOnes w).setWidth maxVlen <<< off)) ||| (val.setWidth maxVlen <<< off)

/-- Element `i` of width `w` of the group whose lowest register is `r` (R25). -/
def elemOf (vlen : Nat) (v : Vector VWord 32) (r w i : Nat) : BitVec w :=
  (regOf v (r + i / (vlen / w))).extractLsb' (w * (i % (vlen / w))) w

/-- Replacing that element and no other bit (R25). -/
def setElem (vlen : Nat) (v : Vector VWord 32) (r w i : Nat) (val : BitVec w) : Vector VWord 32 :=
  v.setIfInBounds (r + i / (vlen / w)) (setField (regOf v (r + i / (vlen / w))) (w * (i % (vlen / w))) val)

/-- Mask element `i` of register `r`: its bit `i` (R26). -/
def maskOf (v : Vector VWord 32) (r i : Nat) : Bool := (regOf v r).getLsbD i

/-- Replacing that bit and no other (R26). -/
def setMask (v : Vector VWord 32) (r i : Nat) (b : Bool) : Vector VWord 32 :=
  v.setIfInBounds r (setField (regOf v r) i (BitVec.ofBool b))

/-- `velem(r, w, i)` (R12, R25). -/
def State.velem (s : State) (r w i : Nat) : BitVec w := elemOf s.vlen s.v r w i

/-- `vmask(r, i)` (R12, R26). -/
def State.vmask (s : State) (r i : Nat) : Bool := maskOf s.v r i

/-! ### Control registers -/

/-- `SEW` (R29). -/
def State.sew (s : State) : Nat := 8 * 2 ^ s.vtype.vsew.toNat

/-- Eight times the `LMUL` that a `vlmul` field means; zero for the reserved value 0b100 (R29). -/
def lmulEighths (vlmul : BitVec 3) : Nat :=
  match vlmul.toNat with
  | 0 => 8
  | 1 => 16
  | 2 => 32
  | 3 => 64
  | 5 => 1
  | 6 => 2
  | 7 => 4
  | _ => 0

/-- Eight times `LMUL` (R29). -/
def State.lmul8 (s : State) : Nat := lmulEighths s.vtype.vlmul

/-- `VLMAX = LMUL * VLEN / SEW` (R30). -/
def State.vlmax (s : State) : Nat := s.lmul8 * s.vlen / (8 * s.sew)

/-- The configuration is one that `vill = 0` promises (R31). -/
def State.supported (s : State) : Bool :=
  s.vtype.vsew.toNat < 4 && s.vtype.vlmul != 4 && s.sew ≤ s.elen && (8 ≤ s.lmul8 || 8 * s.sew ≤ s.lmul8 * s.elen)

/-- The invariants of R41 that bear on `vtype`, `vl` and `vstart`, and the parameter range of R6. -/
def State.launchOk (s : State) : Bool :=
  s.elen ≤ s.vlen && s.supported && s.vl.toNat ≤ s.vlmax && s.vstart.toNat < s.vlen

/-- `vtype` as one `XLEN`-bit word (R28). -/
def State.vtypeWord (s : State) : XWord :=
  BitVec.ofNat 64 (s.vtype.vill.toNat * 2 ^ (s.xbits - 1) + s.vtype.vma.toNat * 2 ^ 7 + s.vtype.vta.toNat * 2 ^ 6 +
    s.vtype.vsew.toNat * 2 ^ 3 + s.vtype.vlmul.toNat)

/-- `vcsr`: bit 0 is `vxsat`, bits 2:1 are `vxrm` (R35). -/
def State.vcsr (s : State) : BitVec 3 := s.vxrm ++ s.vxsat

/-- `vlenb`, the constant `VLEN / 8` (R36). -/
def State.vlenb (s : State) : XWord := BitVec.ofNat 64 (s.vlen / 8)

/-- The control registers by number (R37); no in-scope instruction reaches them this way. R37 says only which bits of
`vxsat`, `vxrm` and `vcsr` are used: that the others read as zero is the model's choice (log 17; DESIGN CHOICE, unsafe),
and so is that no other number reads a register (log 15). -/
def State.readCsr (s : State) (n : Nat) : Option XWord :=
  match n with
  | 0x008 => some s.vstart
  | 0x009 => some (s.vxsat.setWidth 64)
  | 0x00A => some (s.vxrm.setWidth 64)
  | 0x00F => some (s.vcsr.setWidth 64)
  | 0xC20 => some s.vl
  | 0xC21 => some s.vtypeWord
  | 0xC22 => some s.vlenb
  | _ => none

/-! ### Raising the exception, and completing -/

/-- `raise IllegalInstruction(instr)`: no architectural state changes, the word is reported, and the run ends there
(R14, R332, R334; log 9). The trap entry and return of the privileged architecture are outside the spec's scope
(R4(d), R337, R338). -/
def raise (instr : Word32) : Result := .fault (.illegalInstruction instr)

/-- Completion of an instruction that leaves the vector file `v`: `vstart <- 0`, `pc <- pc + 4` (R120), `mstatus.VS`
Dirty (R38), and the next execution draws afresh (R14). -/
def State.complete (s : State) (v : Vector VWord 32) : State :=
  { s with v := v, vstart := 0, pc := s.nextPc, vs := .dirty, draws := s.draws + 1 }

/-! ### The element loops -/

/-- A body element is active: the instruction is unmasked or its mask bit is 1 (R107). -/
def State.activeAt (s : State) (vm : Bool) (i : Nat) : Bool := vm || s.vmask 0 i

/-- `draw({old, ones})` for element `i` of this execution (R110). -/
def State.drawElem (s : State) (i : Nat) {w : Nat} (old : BitVec w) : BitVec w :=
  match Config.agn s.draws i with
  | .ones => BitVec.allOnes w
  | _ => old

/-- `draw({old, 1})` for mask bit `i` of this execution (R111). -/
def State.drawBit (s : State) (i : Nat) (old : Bool) : Bool :=
  match Config.agn s.draws i with
  | .ones => true
  | _ => old

/-- The draw of a mask destination's tail bit: old, 1, or, below `VLMAX`, the computed value (R111; log 16). -/
def State.drawTailBit (s : State) (i : Nat) (old computed : Bool) : Bool :=
  match Config.agn s.draws i with
  | .ones => true
  | .computed => if i < s.vlmax then computed else old
  | .keep => old

/-- The bound of a data destination's tail: the end of its last register (R112). -/
def State.tailEnd (s : State) (w emul8 : Nat) : Nat := max 1 (emul8 / 8) * s.vlen / w

/-- What element `i` of a data destination holds after the instruction (R107, R110, R116, R118), `f` and `active`
read from the snapshot (R119). -/
def State.dataElem (s : State) (vd w : Nat) (active : Nat → Bool) (f : Nat → BitVec w) (i : Nat) : BitVec w :=
  let old := s.velem vd w i
  if i < s.vstart.toNat then old
  else if i < s.vl.toNat then
    if active i then f i
    else if s.vtype.vma then s.drawElem i old
    else old
  else if s.vtype.vta then s.drawElem i old
  else old

/-- The loops L-DATA and L-ALLDATA (R116, R118; the second with every body element active): the register file after
the instruction. Nothing is written where the body is empty (R113). -/
def State.writeData (s : State) (vd w emul8 : Nat) (active : Nat → Bool) (f : Nat → BitVec w) : Vector VWord 32 :=
  if s.vstart.toNat < s.vl.toNat then
    (List.range (s.tailEnd w emul8)).foldl (fun v i => setElem s.vlen v vd w i (s.dataElem vd w active f i)) s.v
  else s.v

/-- What bit `i` of a mask destination holds after the instruction (R107, R111, R117, R118). -/
def State.maskElem (s : State) (vd : Nat) (active f : Nat → Bool) (i : Nat) : Bool :=
  let old := s.vmask vd i
  if i < s.vstart.toNat then old
  else if i < s.vl.toNat then
    if active i then f i
    else if s.vtype.vma then s.drawBit i old
    else old
  else s.drawTailBit i old (f i)

/-- The loops L-MASK and L-ALLMASK (R117, R118; the second with every body bit active). -/
def State.writeMask (s : State) (vd : Nat) (active f : Nat → Bool) : Vector VWord 32 :=
  if s.vstart.toNat < s.vl.toNat then
    (List.range s.vlen).foldl (fun v i => setMask v vd i (s.maskElem vd active f i)) s.v
  else s.v

end Sys2Proof.Machine
end

