-- ==== Sys2Proof/Machine/Operands.lean ====
section
/-! DEFINITION. Register groups, the operand shapes of 40_execution_model.md R101, the configuration checks of R103 to
R109, the steps of R100 before any element is computed, and every second operand an instruction can take (R114, R115). -/

namespace Sys2Proof.Machine

/-- A vector operand: its register number, its `EEW`, and eight times its `EMUL` (R101). -/
structure Group where
  reg : Nat
  eew : Nat
  emul8 : Nat
deriving DecidableEq, Repr

/-- How many registers the group occupies: `max(1, EMUL)` (R24, R106). -/
def Group.count (g : Group) : Nat := max 1 (g.emul8 / 8)

/-- A mask operand: one register at one bit per element (R26, R101). -/
def maskGroup (r : Nat) : Group := ⟨r, 1, 8⟩

/-- `8 <= EEW <= ELEN` and `1/8 <= EMUL <= 8` (R103). -/
def Group.inRange (elen : Nat) (g : Group) : Bool := 8 ≤ g.eew && g.eew ≤ elen && 1 ≤ g.emul8 && g.emul8 ≤ 64

/-- With `EMUL > 1` the register number is a multiple of `EMUL` (R105). -/
def Group.aligned (g : Group) : Bool := g.emul8 ≤ 8 || g.reg % (g.emul8 / 8) == 0

/-- The register sets intersect (R106). -/
def Group.meets (g h : Group) : Bool := g.reg < h.reg + h.count && h.reg < g.reg + g.count

/-- The overlap of a destination `d` with a vector source `t` is allowed (R106 (a), (b), (c)). -/
def Group.mayOverlap (d t : Group) : Bool :=
  d.eew == t.eew ||
  (d.eew < t.eew && d.reg == t.reg) ||
  (t.eew < d.eew && 8 ≤ t.emul8 && t.reg + t.count == d.reg + d.count)

/-- The vector operands of one instruction at one configuration. -/
structure Shape where
  dest : Group
  /-- The destination is a mask value (shape M). -/
  maskDest : Bool
  /-- The data sources `vs2` and, where it is a vector, `vs1`. -/
  srcs : List Group
  /-- The destination is also read (R300, R310). -/
  readsDest : Bool
  /-- `v0` is read as a mask (R27, R42). -/
  readsV0 : Bool
deriving DecidableEq, Repr

/-- Every group the instruction reads, the mask at one bit per element (R101, R109). -/
def Shape.reads (h : Shape) : List Group :=
  h.srcs ++ (if h.readsDest then [h.dest] else []) ++ (if h.readsV0 then [maskGroup 0] else [])

/-- R103: every data operand is in range. -/
def Shape.inRange (elen : Nat) (h : Shape) : Bool := (h.maskDest || h.dest.inRange elen) && h.srcs.all (·.inRange elen)

/-- R105: every group is aligned. -/
def Shape.aligned (h : Shape) : Bool := h.dest.aligned && h.srcs.all (·.aligned)

/-- R106: the destination meets no source but as allowed. -/
def Shape.overlapOk (h : Shape) : Bool := h.srcs.all fun t => !h.dest.meets t || h.dest.mayOverlap t

/-- R108: an instruction that reads `v0` as a mask does not write `v0`, unless its result is a mask. -/
def Shape.destOffMask (h : Shape) : Bool := !h.readsV0 || h.maskDest || !h.dest.meets (maskGroup 0)

/-- R109: no register is read at two element widths. -/
def Shape.oneWidth (h : Shape) : Bool := h.reads.all fun g => h.reads.all fun k => g.eew == k.eew || !g.meets k

/-- The configuration checks of step (4) of R100. -/
def Shape.legal (elen : Nat) (h : Shape) : Bool :=
  h.inRange elen && h.aligned && h.overlapOk && h.destOffMask && h.oneWidth

/-- The second operand of an instruction (R67, R68): a vector group, a scalar, a sign-extended or a zero-extended
immediate. -/
inductive Operand2 where
  | vector (vs1 : RegNum)
  | scalar (rs1 : RegNum)
  | simm (imm : BitVec 5)
  | uimm (imm : BitVec 5)
deriving DecidableEq, Repr

/-- The groups a second operand names: `vs1` is always `SEW` wide (R101). -/
def State.operandGroups (s : State) : Operand2 → List Group
  | .vector vs1 => [⟨vs1.toNat, s.sew, s.lmul8⟩]
  | _ => []

/-- `XS` at width `w`: the low `w` bits of `x[rs1]` where `XLEN >= w`, else its sign extension (R114). -/
def State.scalarOperand (s : State) (w : Nat) (rs1 : RegNum) : BitVec w :=
  ((s.readX rs1).setWidth s.xbits).signExtend w

/-- The value of the second operand for element `i` at width `w` (R114, R115): `IMM` is sign-extended, `UIMM`
zero-extended (90_conflicts.md C2). -/
def State.operand (s : State) (op : Operand2) (w i : Nat) : BitVec w :=
  match op with
  | .vector vs1 => s.velem vs1.toNat w i
  | .scalar rs1 => s.scalarOperand w rs1
  | .simm imm => imm.signExtend w
  | .uimm imm => imm.setWidth w

/-! ### The shapes of R101 -/

/-- Shape S. -/
def State.shapeSingle (s : State) (vd vs2 : RegNum) (op : Operand2) (readsV0 : Bool) : Shape :=
  ⟨⟨vd.toNat, s.sew, s.lmul8⟩, false, ⟨vs2.toNat, s.sew, s.lmul8⟩ :: s.operandGroups op, false, readsV0⟩

/-- Shape S with the destination also read (R300). -/
def State.shapeMac (s : State) (vd vs2 : RegNum) (op : Operand2) (readsV0 : Bool) : Shape :=
  { s.shapeSingle vd vs2 op readsV0 with readsDest := true }

/-- Shape MV: no register is read through the `vs2` field (R324). -/
def State.shapeMove (s : State) (vd : RegNum) (op : Operand2) : Shape :=
  ⟨⟨vd.toNat, s.sew, s.lmul8⟩, false, s.operandGroups op, false, false⟩

/-- Shape WV. -/
def State.shapeWiden (s : State) (vd vs2 : RegNum) (op : Operand2) (readsV0 : Bool) : Shape :=
  ⟨⟨vd.toNat, 2 * s.sew, 2 * s.lmul8⟩, false, ⟨vs2.toNat, s.sew, s.lmul8⟩ :: s.operandGroups op, false, readsV0⟩

/-- Shape WV with the destination also read, at `2*SEW` (R310). -/
def State.shapeWidenMac (s : State) (vd vs2 : RegNum) (op : Operand2) (readsV0 : Bool) : Shape :=
  { s.shapeWiden vd vs2 op readsV0 with readsDest := true }

/-- Shape WW. -/
def State.shapeWidenWide (s : State) (vd vs2 : RegNum) (op : Operand2) (readsV0 : Bool) : Shape :=
  ⟨⟨vd.toNat, 2 * s.sew, 2 * s.lmul8⟩, false, ⟨vs2.toNat, 2 * s.sew, 2 * s.lmul8⟩ :: s.operandGroups op, false, readsV0⟩

/-- Shape N. -/
def State.shapeNarrow (s : State) (vd vs2 : RegNum) (op : Operand2) (readsV0 : Bool) : Shape :=
  ⟨⟨vd.toNat, s.sew, s.lmul8⟩, false, ⟨vs2.toNat, 2 * s.sew, 2 * s.lmul8⟩ :: s.operandGroups op, false, readsV0⟩

/-- Shape Xk (R170): a source of `EEW` or `EMUL` below the least is out of range (R171). -/
def State.shapeExt (s : State) (k : Nat) (vd vs2 : RegNum) (readsV0 : Bool) : Shape :=
  ⟨⟨vd.toNat, s.sew, s.lmul8⟩, false, [⟨vs2.toNat, s.sew / k, s.lmul8 / k⟩], false, readsV0⟩

/-- Shape M. -/
def State.shapeMask (s : State) (vd vs2 : RegNum) (op : Operand2) (readsV0 : Bool) : Shape :=
  ⟨maskGroup vd.toNat, true, ⟨vs2.toNat, s.sew, s.lmul8⟩ :: s.operandGroups op, false, readsV0⟩

/-- Steps (2) to (4) of R100: the next state `t` where no check fails. The exception is the same whichever cause
applies (R333), so their order is the model's. `mstatus.VS` Off is cause 14 of R331 (log 4); a configuration outside
R41 has no meaning (log 8). -/
def State.guarded (s : State) (word : Word32) (shape : Shape) (t : State) : Result :=
  if s.vs = .off then raise word
  else if s.vtype.vill then raise word
  else if !s.launchOk then .refused .launchState
  else if s.vstart ≠ 0 ∧ s.cfg.vstartTrap then raise word
  else if !shape.legal s.elen then raise word
  else .next t

end Sys2Proof.Machine
end

