-- ==== Sys2Proof/Machine/Run.lean ====
section
/-! DEFINITION. One instruction of each operand shape (40_execution_model.md R100, R101): the checks, then the element
loop with the family's per-element function, then completion. The meanings of the families are one call each. The first
argument is the instruction itself, whose word a raise reports (R14; log 10). -/

namespace Sys2Proof.Machine

/-- Shape S, loop L-DATA (R116). -/
def runSingle (i : Instr) (vd vs2 : RegNum) (op : Operand2) (vm : Bool)
    (f : (n : Nat) → BitVec n → BitVec n → BitVec n) (s : State) : Result :=
  s.guarded (encode i) (s.shapeSingle vd vs2 op (!vm))
    (s.complete (s.writeData vd.toNat s.sew s.lmul8 (s.activeAt vm)
      fun e => f s.sew (s.velem vs2.toNat s.sew e) (s.operand op s.sew e)))

/-- Shape S, loop L-ALLDATA (R118): `v0` is an input, every body element is written. -/
def runAllData (i : Instr) (vd vs2 : RegNum) (op : Operand2)
    (f : (n : Nat) → BitVec n → BitVec n → Bool → BitVec n) (s : State) : Result :=
  s.guarded (encode i) (s.shapeSingle vd vs2 op true)
    (s.complete (s.writeData vd.toNat s.sew s.lmul8 (fun _ => true)
      fun e => f s.sew (s.velem vs2.toNat s.sew e) (s.operand op s.sew e) (s.vmask 0 e)))

/-- Shape S with the destination also read, loop L-DATA (R300). -/
def runMac (i : Instr) (vd vs2 : RegNum) (op : Operand2) (vm : Bool)
    (f : (n : Nat) → BitVec n → BitVec n → BitVec n → BitVec n) (s : State) : Result :=
  s.guarded (encode i) (s.shapeMac vd vs2 op (!vm))
    (s.complete (s.writeData vd.toNat s.sew s.lmul8 (s.activeAt vm)
      fun e => f s.sew (s.velem vs2.toNat s.sew e) (s.operand op s.sew e) (s.velem vd.toNat s.sew e)))

/-- Shape MV, loop L-DATA with every body element active (R324). -/
def runMove (i : Instr) (vd : RegNum) (op : Operand2) (s : State) : Result :=
  s.guarded (encode i) (s.shapeMove vd op)
    (s.complete (s.writeData vd.toNat s.sew s.lmul8 (s.activeAt true) fun e => s.operand op s.sew e))

/-- Shape WV, loop L-DATA with `Wd = 2*SEW` (R150, R290). -/
def runWiden (i : Instr) (vd vs2 : RegNum) (op : Operand2) (vm : Bool)
    (f : (n : Nat) → BitVec n → BitVec n → BitVec (2 * n)) (s : State) : Result :=
  s.guarded (encode i) (s.shapeWiden vd vs2 op (!vm))
    (s.complete (s.writeData vd.toNat (2 * s.sew) (2 * s.lmul8) (s.activeAt vm)
      fun e => f s.sew (s.velem vs2.toNat s.sew e) (s.operand op s.sew e)))

/-- Shape WV with the destination also read (R310). -/
def runWidenMac (i : Instr) (vd vs2 : RegNum) (op : Operand2) (vm : Bool)
    (f : (n : Nat) → BitVec n → BitVec n → BitVec (2 * n) → BitVec (2 * n)) (s : State) : Result :=
  s.guarded (encode i) (s.shapeWidenMac vd vs2 op (!vm))
    (s.complete (s.writeData vd.toNat (2 * s.sew) (2 * s.lmul8) (s.activeAt vm)
      fun e => f s.sew (s.velem vs2.toNat s.sew e) (s.operand op s.sew e) (s.velem vd.toNat (2 * s.sew) e)))

/-- Shape WW, loop L-DATA with `Wd = 2*SEW` (R150). -/
def runWidenWide (i : Instr) (vd vs2 : RegNum) (op : Operand2) (vm : Bool)
    (f : (n : Nat) → BitVec (2 * n) → BitVec n → BitVec (2 * n)) (s : State) : Result :=
  s.guarded (encode i) (s.shapeWidenWide vd vs2 op (!vm))
    (s.complete (s.writeData vd.toNat (2 * s.sew) (2 * s.lmul8) (s.activeAt vm)
      fun e => f s.sew (s.velem vs2.toNat (2 * s.sew) e) (s.operand op s.sew e)))

/-- Shape N, loop L-DATA (R221). -/
def runNarrow (i : Instr) (vd vs2 : RegNum) (op : Operand2) (vm : Bool)
    (f : (n : Nat) → BitVec (2 * n) → BitVec n → BitVec n) (s : State) : Result :=
  s.guarded (encode i) (s.shapeNarrow vd vs2 op (!vm))
    (s.complete (s.writeData vd.toNat s.sew s.lmul8 (s.activeAt vm)
      fun e => f s.sew (s.velem vs2.toNat (2 * s.sew) e) (s.operand op s.sew e)))

/-- Shape Xk, loop L-DATA (R170). -/
def runExt (i : Instr) (k : Nat) (vd vs2 : RegNum) (vm : Bool)
    (f : (n m : Nat) → BitVec n → BitVec m) (s : State) : Result :=
  s.guarded (encode i) (s.shapeExt k vd vs2 (!vm))
    (s.complete (s.writeData vd.toNat s.sew s.lmul8 (s.activeAt vm)
      fun e => f (s.sew / k) s.sew (s.velem vs2.toNat (s.sew / k) e)))

/-- Shape M, loop L-MASK (R117): the comparisons. -/
def runCompare (i : Instr) (vd vs2 : RegNum) (op : Operand2) (vm : Bool)
    (f : (n : Nat) → BitVec n → BitVec n → Bool) (s : State) : Result :=
  s.guarded (encode i) (s.shapeMask vd vs2 op (!vm))
    (s.complete (s.writeMask vd.toNat (s.activeAt vm)
      fun e => f s.sew (s.velem vs2.toNat s.sew e) (s.operand op s.sew e)))

/-- Shape M, loop L-ALLMASK (R118): carry-out and borrow-out. With `carryIn` the bit of `v0` is an input, else it is 0
and `v0` is not read (R181). -/
def runAllMask (i : Instr) (vd vs2 : RegNum) (op : Operand2) (carryIn : Bool)
    (f : (n : Nat) → BitVec n → BitVec n → Bool → Bool) (s : State) : Result :=
  s.guarded (encode i) (s.shapeMask vd vs2 op carryIn)
    (s.complete (s.writeMask vd.toNat (fun _ => true)
      fun e => f s.sew (s.velem vs2.toNat s.sew e) (s.operand op s.sew e) (carryIn && s.vmask 0 e)))

end Sys2Proof.Machine
end

