-- ==== Sys2Proof/Machine/AddSub.lean ====
section
/-! DEFINITION. Single-width and widening add and subtract: the meanings of 41_add_sub.md, R140 to R167, one per instruction. The family rules are R140, R150, R151; a checked instruction either completes with its element function or raises IllegalInstruction (R331). -/

namespace Sys2Proof.Machine

/-- R141: `vadd.vv vd, vs2, vs1, vm`, `f(i) = trunc_SEW(uint(a) + uint(b))`. -/
def execVaddVV (vd vs2 vs1 : RegNum) (vm : Bool) (s : State) : Result :=
  runSingle (.vaddVV vd vs2 vs1 vm) vd vs2 (.vector vs1) vm fAdd s

/-- R142: `vadd.vx vd, vs2, rs1, vm`, `f(i) = trunc_SEW(uint(a) + uint(b))`. -/
def execVaddVX (vd vs2 rs1 : RegNum) (vm : Bool) (s : State) : Result :=
  runSingle (.vaddVX vd vs2 rs1 vm) vd vs2 (.scalar rs1) vm fAdd s

/-- R143: `vadd.vi vd, vs2, imm, vm`, `f(i) = trunc_SEW(uint(a) + uint(b))`. -/
def execVaddVI (vd vs2 : RegNum) (imm : BitVec 5) (vm : Bool) (s : State) : Result :=
  runSingle (.vaddVI vd vs2 imm vm) vd vs2 (.simm imm) vm fAdd s

/-- R144: `vsub.vv vd, vs2, vs1, vm`, `f(i) = trunc_SEW(uint(a) - uint(b))`. -/
def execVsubVV (vd vs2 vs1 : RegNum) (vm : Bool) (s : State) : Result :=
  runSingle (.vsubVV vd vs2 vs1 vm) vd vs2 (.vector vs1) vm fSub s

/-- R145: `vsub.vx vd, vs2, rs1, vm`, `f(i) = trunc_SEW(uint(a) - uint(b))`. -/
def execVsubVX (vd vs2 rs1 : RegNum) (vm : Bool) (s : State) : Result :=
  runSingle (.vsubVX vd vs2 rs1 vm) vd vs2 (.scalar rs1) vm fSub s

/-- R146: `vrsub.vx vd, vs2, rs1, vm`, `f(i) = trunc_SEW(uint(b) - uint(a))`. -/
def execVrsubVX (vd vs2 rs1 : RegNum) (vm : Bool) (s : State) : Result :=
  runSingle (.vrsubVX vd vs2 rs1 vm) vd vs2 (.scalar rs1) vm fRsub s

/-- R147: `vrsub.vi vd, vs2, imm, vm`, `f(i) = trunc_SEW(uint(b) - uint(a))`. -/
def execVrsubVI (vd vs2 : RegNum) (imm : BitVec 5) (vm : Bool) (s : State) : Result :=
  runSingle (.vrsubVI vd vs2 imm vm) vd vs2 (.simm imm) vm fRsub s

/-- R152: `vwaddu.vv vd, vs2, vs1, vm`, `f(i) = trunc_2SEW(uint(a) + uint(b))`. -/
def execVwadduVV (vd vs2 vs1 : RegNum) (vm : Bool) (s : State) : Result :=
  runWiden (.vwadduVV vd vs2 vs1 vm) vd vs2 (.vector vs1) vm fWaddu s

/-- R153: `vwaddu.vx vd, vs2, rs1, vm`, `f(i) = trunc_2SEW(uint(a) + uint(b))`. -/
def execVwadduVX (vd vs2 rs1 : RegNum) (vm : Bool) (s : State) : Result :=
  runWiden (.vwadduVX vd vs2 rs1 vm) vd vs2 (.scalar rs1) vm fWaddu s

/-- R154: `vwsubu.vv vd, vs2, vs1, vm`, `f(i) = trunc_2SEW(uint(a) - uint(b))`. -/
def execVwsubuVV (vd vs2 vs1 : RegNum) (vm : Bool) (s : State) : Result :=
  runWiden (.vwsubuVV vd vs2 vs1 vm) vd vs2 (.vector vs1) vm fWsubu s

/-- R155: `vwsubu.vx vd, vs2, rs1, vm`, `f(i) = trunc_2SEW(uint(a) - uint(b))`. -/
def execVwsubuVX (vd vs2 rs1 : RegNum) (vm : Bool) (s : State) : Result :=
  runWiden (.vwsubuVX vd vs2 rs1 vm) vd vs2 (.scalar rs1) vm fWsubu s

/-- R156: `vwadd.vv vd, vs2, vs1, vm`, `f(i) = trunc_2SEW(sint(a) + sint(b))`. -/
def execVwaddVV (vd vs2 vs1 : RegNum) (vm : Bool) (s : State) : Result :=
  runWiden (.vwaddVV vd vs2 vs1 vm) vd vs2 (.vector vs1) vm fWadd s

/-- R157: `vwadd.vx vd, vs2, rs1, vm`, `f(i) = trunc_2SEW(sint(a) + sint(b))`. -/
def execVwaddVX (vd vs2 rs1 : RegNum) (vm : Bool) (s : State) : Result :=
  runWiden (.vwaddVX vd vs2 rs1 vm) vd vs2 (.scalar rs1) vm fWadd s

/-- R158: `vwsub.vv vd, vs2, vs1, vm`, `f(i) = trunc_2SEW(sint(a) - sint(b))`. -/
def execVwsubVV (vd vs2 vs1 : RegNum) (vm : Bool) (s : State) : Result :=
  runWiden (.vwsubVV vd vs2 vs1 vm) vd vs2 (.vector vs1) vm fWsub s

/-- R159: `vwsub.vx vd, vs2, rs1, vm`, `f(i) = trunc_2SEW(sint(a) - sint(b))`. -/
def execVwsubVX (vd vs2 rs1 : RegNum) (vm : Bool) (s : State) : Result :=
  runWiden (.vwsubVX vd vs2 rs1 vm) vd vs2 (.scalar rs1) vm fWsub s

/-- R160: `vwaddu.wv vd, vs2, vs1, vm`, `f(i) = trunc_2SEW(uint(a) + uint(b))`. -/
def execVwadduWV (vd vs2 vs1 : RegNum) (vm : Bool) (s : State) : Result :=
  runWidenWide (.vwadduWV vd vs2 vs1 vm) vd vs2 (.vector vs1) vm fWadduW s

/-- R161: `vwaddu.wx vd, vs2, rs1, vm`, `f(i) = trunc_2SEW(uint(a) + uint(b))`. -/
def execVwadduWX (vd vs2 rs1 : RegNum) (vm : Bool) (s : State) : Result :=
  runWidenWide (.vwadduWX vd vs2 rs1 vm) vd vs2 (.scalar rs1) vm fWadduW s

/-- R162: `vwsubu.wv vd, vs2, vs1, vm`, `f(i) = trunc_2SEW(uint(a) - uint(b))`. -/
def execVwsubuWV (vd vs2 vs1 : RegNum) (vm : Bool) (s : State) : Result :=
  runWidenWide (.vwsubuWV vd vs2 vs1 vm) vd vs2 (.vector vs1) vm fWsubuW s

/-- R163: `vwsubu.wx vd, vs2, rs1, vm`, `f(i) = trunc_2SEW(uint(a) - uint(b))`. -/
def execVwsubuWX (vd vs2 rs1 : RegNum) (vm : Bool) (s : State) : Result :=
  runWidenWide (.vwsubuWX vd vs2 rs1 vm) vd vs2 (.scalar rs1) vm fWsubuW s

/-- R164: `vwadd.wv vd, vs2, vs1, vm`, `f(i) = trunc_2SEW(sint(a) + sint(b))`. -/
def execVwaddWV (vd vs2 vs1 : RegNum) (vm : Bool) (s : State) : Result :=
  runWidenWide (.vwaddWV vd vs2 vs1 vm) vd vs2 (.vector vs1) vm fWaddW s

/-- R165: `vwadd.wx vd, vs2, rs1, vm`, `f(i) = trunc_2SEW(sint(a) + sint(b))`. -/
def execVwaddWX (vd vs2 rs1 : RegNum) (vm : Bool) (s : State) : Result :=
  runWidenWide (.vwaddWX vd vs2 rs1 vm) vd vs2 (.scalar rs1) vm fWaddW s

/-- R166: `vwsub.wv vd, vs2, vs1, vm`, `f(i) = trunc_2SEW(sint(a) - sint(b))`. -/
def execVwsubWV (vd vs2 vs1 : RegNum) (vm : Bool) (s : State) : Result :=
  runWidenWide (.vwsubWV vd vs2 vs1 vm) vd vs2 (.vector vs1) vm fWsubW s

/-- R167: `vwsub.wx vd, vs2, rs1, vm`, `f(i) = trunc_2SEW(sint(a) - sint(b))`. -/
def execVwsubWX (vd vs2 rs1 : RegNum) (vm : Bool) (s : State) : Result :=
  runWidenWide (.vwsubWX vd vs2 rs1 vm) vd vs2 (.scalar rs1) vm fWsubW s

end Sys2Proof.Machine
end

