-- ==== Sys2Proof/Machine/Carry.lean ====
section
/-! DEFINITION. Add-with-carry and subtract-with-borrow: the meanings of 43_carry.md, R180 to R199, one per instruction. The family rules are R180 to R184; a checked instruction either completes with its element function or raises IllegalInstruction (R331). -/

namespace Sys2Proof.Machine

/-- R185: `vadc.vvm vd, vs2, vs1, v0`, `f(i) = trunc_SEW(uint(a) + uint(b) + c)`. -/
def execVadcVVM (vd vs2 vs1 : RegNum) (s : State) : Result :=
  runAllData (.vadcVVM vd vs2 vs1) vd vs2 (.vector vs1) fAdc s

/-- R186: `vadc.vxm vd, vs2, rs1, v0`, `f(i) = trunc_SEW(uint(a) + uint(b) + c)`. -/
def execVadcVXM (vd vs2 rs1 : RegNum) (s : State) : Result :=
  runAllData (.vadcVXM vd vs2 rs1) vd vs2 (.scalar rs1) fAdc s

/-- R187: `vadc.vim vd, vs2, imm, v0`, `f(i) = trunc_SEW(uint(a) + uint(b) + c)`. -/
def execVadcVIM (vd vs2 : RegNum) (imm : BitVec 5) (s : State) : Result :=
  runAllData (.vadcVIM vd vs2 imm) vd vs2 (.simm imm) fAdc s

/-- R188: `vmadc.vvm vd, vs2, vs1, v0`, `f(i) = 1 if uint(a) + uint(b) + c >= 2^SEW else 0`. -/
def execVmadcVVM (vd vs2 vs1 : RegNum) (s : State) : Result :=
  runAllMask (.vmadcVVM vd vs2 vs1) vd vs2 (.vector vs1) true carryOut s

/-- R189: `vmadc.vxm vd, vs2, rs1, v0`, `f(i) = 1 if uint(a) + uint(b) + c >= 2^SEW else 0`. -/
def execVmadcVXM (vd vs2 rs1 : RegNum) (s : State) : Result :=
  runAllMask (.vmadcVXM vd vs2 rs1) vd vs2 (.scalar rs1) true carryOut s

/-- R190: `vmadc.vim vd, vs2, imm, v0`, `f(i) = 1 if uint(a) + uint(b) + c >= 2^SEW else 0`. -/
def execVmadcVIM (vd vs2 : RegNum) (imm : BitVec 5) (s : State) : Result :=
  runAllMask (.vmadcVIM vd vs2 imm) vd vs2 (.simm imm) true carryOut s

/-- R191: `vmadc.vv vd, vs2, vs1`, `f(i) = 1 if uint(a) + uint(b) + c >= 2^SEW else 0`. -/
def execVmadcVV (vd vs2 vs1 : RegNum) (s : State) : Result :=
  runAllMask (.vmadcVV vd vs2 vs1) vd vs2 (.vector vs1) false carryOut s

/-- R192: `vmadc.vx vd, vs2, rs1`, `f(i) = 1 if uint(a) + uint(b) + c >= 2^SEW else 0`. -/
def execVmadcVX (vd vs2 rs1 : RegNum) (s : State) : Result :=
  runAllMask (.vmadcVX vd vs2 rs1) vd vs2 (.scalar rs1) false carryOut s

/-- R193: `vmadc.vi vd, vs2, imm`, `f(i) = 1 if uint(a) + uint(b) + c >= 2^SEW else 0`. -/
def execVmadcVI (vd vs2 : RegNum) (imm : BitVec 5) (s : State) : Result :=
  runAllMask (.vmadcVI vd vs2 imm) vd vs2 (.simm imm) false carryOut s

/-- R194: `vsbc.vvm vd, vs2, vs1, v0`, `f(i) = trunc_SEW(uint(a) - uint(b) - c)`. -/
def execVsbcVVM (vd vs2 vs1 : RegNum) (s : State) : Result :=
  runAllData (.vsbcVVM vd vs2 vs1) vd vs2 (.vector vs1) fSbc s

/-- R195: `vsbc.vxm vd, vs2, rs1, v0`, `f(i) = trunc_SEW(uint(a) - uint(b) - c)`. -/
def execVsbcVXM (vd vs2 rs1 : RegNum) (s : State) : Result :=
  runAllData (.vsbcVXM vd vs2 rs1) vd vs2 (.scalar rs1) fSbc s

/-- R196: `vmsbc.vvm vd, vs2, vs1, v0`, `f(i) = 1 if uint(a) - uint(b) - c < 0 else 0`. -/
def execVmsbcVVM (vd vs2 vs1 : RegNum) (s : State) : Result :=
  runAllMask (.vmsbcVVM vd vs2 vs1) vd vs2 (.vector vs1) true borrowOut s

/-- R197: `vmsbc.vxm vd, vs2, rs1, v0`, `f(i) = 1 if uint(a) - uint(b) - c < 0 else 0`. -/
def execVmsbcVXM (vd vs2 rs1 : RegNum) (s : State) : Result :=
  runAllMask (.vmsbcVXM vd vs2 rs1) vd vs2 (.scalar rs1) true borrowOut s

/-- R198: `vmsbc.vv vd, vs2, vs1`, `f(i) = 1 if uint(a) - uint(b) - c < 0 else 0`. -/
def execVmsbcVV (vd vs2 vs1 : RegNum) (s : State) : Result :=
  runAllMask (.vmsbcVV vd vs2 vs1) vd vs2 (.vector vs1) false borrowOut s

/-- R199: `vmsbc.vx vd, vs2, rs1`, `f(i) = 1 if uint(a) - uint(b) - c < 0 else 0`. -/
def execVmsbcVX (vd vs2 rs1 : RegNum) (s : State) : Result :=
  runAllMask (.vmsbcVX vd vs2 rs1) vd vs2 (.scalar rs1) false borrowOut s

end Sys2Proof.Machine
end

