-- ==== Sys2Proof/Machine/Compare.lean ====
section
/-! DEFINITION. Integer comparison: the meanings of 45_compare.md, R230 to R254, one per instruction. The family rules are R230 to R232; a checked instruction either completes with its element function or raises IllegalInstruction (R331). -/

namespace Sys2Proof.Machine

/-- R233: `vmseq.vv vd, vs2, vs1, vm`, `f(i) = 1 if a == b else 0`. -/
def execVmseqVV (vd vs2 vs1 : RegNum) (vm : Bool) (s : State) : Result :=
  runCompare (.vmseqVV vd vs2 vs1 vm) vd vs2 (.vector vs1) vm cmpEq s

/-- R234: `vmseq.vx vd, vs2, rs1, vm`, `f(i) = 1 if a == b else 0`. -/
def execVmseqVX (vd vs2 rs1 : RegNum) (vm : Bool) (s : State) : Result :=
  runCompare (.vmseqVX vd vs2 rs1 vm) vd vs2 (.scalar rs1) vm cmpEq s

/-- R235: `vmseq.vi vd, vs2, imm, vm`, `f(i) = 1 if a == b else 0`. -/
def execVmseqVI (vd vs2 : RegNum) (imm : BitVec 5) (vm : Bool) (s : State) : Result :=
  runCompare (.vmseqVI vd vs2 imm vm) vd vs2 (.simm imm) vm cmpEq s

/-- R236: `vmsne.vv vd, vs2, vs1, vm`, `f(i) = 1 if a != b else 0`. -/
def execVmsneVV (vd vs2 vs1 : RegNum) (vm : Bool) (s : State) : Result :=
  runCompare (.vmsneVV vd vs2 vs1 vm) vd vs2 (.vector vs1) vm cmpNe s

/-- R237: `vmsne.vx vd, vs2, rs1, vm`, `f(i) = 1 if a != b else 0`. -/
def execVmsneVX (vd vs2 rs1 : RegNum) (vm : Bool) (s : State) : Result :=
  runCompare (.vmsneVX vd vs2 rs1 vm) vd vs2 (.scalar rs1) vm cmpNe s

/-- R238: `vmsne.vi vd, vs2, imm, vm`, `f(i) = 1 if a != b else 0`. -/
def execVmsneVI (vd vs2 : RegNum) (imm : BitVec 5) (vm : Bool) (s : State) : Result :=
  runCompare (.vmsneVI vd vs2 imm vm) vd vs2 (.simm imm) vm cmpNe s

/-- R239: `vmsltu.vv vd, vs2, vs1, vm`, `f(i) = 1 if uint(a) < uint(b) else 0`. -/
def execVmsltuVV (vd vs2 vs1 : RegNum) (vm : Bool) (s : State) : Result :=
  runCompare (.vmsltuVV vd vs2 vs1 vm) vd vs2 (.vector vs1) vm cmpLtu s

/-- R240: `vmsltu.vx vd, vs2, rs1, vm`, `f(i) = 1 if uint(a) < uint(b) else 0`. -/
def execVmsltuVX (vd vs2 rs1 : RegNum) (vm : Bool) (s : State) : Result :=
  runCompare (.vmsltuVX vd vs2 rs1 vm) vd vs2 (.scalar rs1) vm cmpLtu s

/-- R241: `vmslt.vv vd, vs2, vs1, vm`, `f(i) = 1 if sint(a) < sint(b) else 0`. -/
def execVmsltVV (vd vs2 vs1 : RegNum) (vm : Bool) (s : State) : Result :=
  runCompare (.vmsltVV vd vs2 vs1 vm) vd vs2 (.vector vs1) vm cmpLt s

/-- R242: `vmslt.vx vd, vs2, rs1, vm`, `f(i) = 1 if sint(a) < sint(b) else 0`. -/
def execVmsltVX (vd vs2 rs1 : RegNum) (vm : Bool) (s : State) : Result :=
  runCompare (.vmsltVX vd vs2 rs1 vm) vd vs2 (.scalar rs1) vm cmpLt s

/-- R243: `vmsleu.vv vd, vs2, vs1, vm`, `f(i) = 1 if uint(a) <= uint(b) else 0`. -/
def execVmsleuVV (vd vs2 vs1 : RegNum) (vm : Bool) (s : State) : Result :=
  runCompare (.vmsleuVV vd vs2 vs1 vm) vd vs2 (.vector vs1) vm cmpLeu s

/-- R244: `vmsleu.vx vd, vs2, rs1, vm`, `f(i) = 1 if uint(a) <= uint(b) else 0`. -/
def execVmsleuVX (vd vs2 rs1 : RegNum) (vm : Bool) (s : State) : Result :=
  runCompare (.vmsleuVX vd vs2 rs1 vm) vd vs2 (.scalar rs1) vm cmpLeu s

/-- R245: `vmsleu.vi vd, vs2, imm, vm`, `f(i) = 1 if uint(a) <= uint(b) else 0`. -/
def execVmsleuVI (vd vs2 : RegNum) (imm : BitVec 5) (vm : Bool) (s : State) : Result :=
  runCompare (.vmsleuVI vd vs2 imm vm) vd vs2 (.simm imm) vm cmpLeu s

/-- R246: `vmsle.vv vd, vs2, vs1, vm`, `f(i) = 1 if sint(a) <= sint(b) else 0`. -/
def execVmsleVV (vd vs2 vs1 : RegNum) (vm : Bool) (s : State) : Result :=
  runCompare (.vmsleVV vd vs2 vs1 vm) vd vs2 (.vector vs1) vm cmpLe s

/-- R247: `vmsle.vx vd, vs2, rs1, vm`, `f(i) = 1 if sint(a) <= sint(b) else 0`. -/
def execVmsleVX (vd vs2 rs1 : RegNum) (vm : Bool) (s : State) : Result :=
  runCompare (.vmsleVX vd vs2 rs1 vm) vd vs2 (.scalar rs1) vm cmpLe s

/-- R248: `vmsle.vi vd, vs2, imm, vm`, `f(i) = 1 if sint(a) <= sint(b) else 0`. -/
def execVmsleVI (vd vs2 : RegNum) (imm : BitVec 5) (vm : Bool) (s : State) : Result :=
  runCompare (.vmsleVI vd vs2 imm vm) vd vs2 (.simm imm) vm cmpLe s

/-- R249: `vmsgtu.vx vd, vs2, rs1, vm`, `f(i) = 1 if uint(a) > uint(b) else 0`. -/
def execVmsgtuVX (vd vs2 rs1 : RegNum) (vm : Bool) (s : State) : Result :=
  runCompare (.vmsgtuVX vd vs2 rs1 vm) vd vs2 (.scalar rs1) vm cmpGtu s

/-- R250: `vmsgtu.vi vd, vs2, imm, vm`, `f(i) = 1 if uint(a) > uint(b) else 0`. -/
def execVmsgtuVI (vd vs2 : RegNum) (imm : BitVec 5) (vm : Bool) (s : State) : Result :=
  runCompare (.vmsgtuVI vd vs2 imm vm) vd vs2 (.simm imm) vm cmpGtu s

/-- R251: `vmsgt.vx vd, vs2, rs1, vm`, `f(i) = 1 if sint(a) > sint(b) else 0`. -/
def execVmsgtVX (vd vs2 rs1 : RegNum) (vm : Bool) (s : State) : Result :=
  runCompare (.vmsgtVX vd vs2 rs1 vm) vd vs2 (.scalar rs1) vm cmpGt s

/-- R252: `vmsgt.vi vd, vs2, imm, vm`, `f(i) = 1 if sint(a) > sint(b) else 0`. -/
def execVmsgtVI (vd vs2 : RegNum) (imm : BitVec 5) (vm : Bool) (s : State) : Result :=
  runCompare (.vmsgtVI vd vs2 imm vm) vd vs2 (.simm imm) vm cmpGt s

end Sys2Proof.Machine
end

