-- ==== Sys2Proof/Machine/Extension.lean ====
section
/-! DEFINITION. Integer extension: the meanings of 42_extension.md, R170 to R177, one per instruction. The family rules are R170, R171; a checked instruction either completes with its element function or raises IllegalInstruction (R331). -/

namespace Sys2Proof.Machine

/-- R172: `vzext.vf2 vd, vs2, vm`, `f(i) = zext_SEW(velem(vs2, SEW/2, i))`. -/
def execVzextVF2 (vd vs2 : RegNum) (vm : Bool) (s : State) : Result :=
  runExt (.vzextVF2 vd vs2 vm) 2 vd vs2 vm fZext s

/-- R173: `vsext.vf2 vd, vs2, vm`, `f(i) = sext_SEW(velem(vs2, SEW/2, i))`. -/
def execVsextVF2 (vd vs2 : RegNum) (vm : Bool) (s : State) : Result :=
  runExt (.vsextVF2 vd vs2 vm) 2 vd vs2 vm fSext s

/-- R174: `vzext.vf4 vd, vs2, vm`, `f(i) = zext_SEW(velem(vs2, SEW/4, i))`. -/
def execVzextVF4 (vd vs2 : RegNum) (vm : Bool) (s : State) : Result :=
  runExt (.vzextVF4 vd vs2 vm) 4 vd vs2 vm fZext s

/-- R175: `vsext.vf4 vd, vs2, vm`, `f(i) = sext_SEW(velem(vs2, SEW/4, i))`. -/
def execVsextVF4 (vd vs2 : RegNum) (vm : Bool) (s : State) : Result :=
  runExt (.vsextVF4 vd vs2 vm) 4 vd vs2 vm fSext s

/-- R176: `vzext.vf8 vd, vs2, vm`, `f(i) = zext_SEW(velem(vs2, SEW/8, i))`. -/
def execVzextVF8 (vd vs2 : RegNum) (vm : Bool) (s : State) : Result :=
  runExt (.vzextVF8 vd vs2 vm) 8 vd vs2 vm fZext s

/-- R177: `vsext.vf8 vd, vs2, vm`, `f(i) = sext_SEW(velem(vs2, SEW/8, i))`. -/
def execVsextVF8 (vd vs2 : RegNum) (vm : Bool) (s : State) : Result :=
  runExt (.vsextVF8 vd vs2 vm) 8 vd vs2 vm fSext s

end Sys2Proof.Machine
end

