-- ==== Sys2Proof/Machine/LogicalShift.lean ====
section
/-! DEFINITION. Bitwise logical, single-width shift and narrowing right shift: the meanings of 44_logical_shift.md, R200 to R228, one per instruction. The family rules are R200, R210, R221, R228; a checked instruction either completes with its element function or raises IllegalInstruction (R331). -/

namespace Sys2Proof.Machine

/-- R201: `vand.vv vd, vs2, vs1, vm`, `f(i) = a and b (bitwise)`. -/
def execVandVV (vd vs2 vs1 : RegNum) (vm : Bool) (s : State) : Result :=
  runSingle (.vandVV vd vs2 vs1 vm) vd vs2 (.vector vs1) vm fAnd s

/-- R202: `vand.vx vd, vs2, rs1, vm`, `f(i) = a and b (bitwise)`. -/
def execVandVX (vd vs2 rs1 : RegNum) (vm : Bool) (s : State) : Result :=
  runSingle (.vandVX vd vs2 rs1 vm) vd vs2 (.scalar rs1) vm fAnd s

/-- R203: `vand.vi vd, vs2, imm, vm`, `f(i) = a and b (bitwise)`. -/
def execVandVI (vd vs2 : RegNum) (imm : BitVec 5) (vm : Bool) (s : State) : Result :=
  runSingle (.vandVI vd vs2 imm vm) vd vs2 (.simm imm) vm fAnd s

/-- R204: `vor.vv vd, vs2, vs1, vm`, `f(i) = a or b (bitwise)`. -/
def execVorVV (vd vs2 vs1 : RegNum) (vm : Bool) (s : State) : Result :=
  runSingle (.vorVV vd vs2 vs1 vm) vd vs2 (.vector vs1) vm fOr s

/-- R205: `vor.vx vd, vs2, rs1, vm`, `f(i) = a or b (bitwise)`. -/
def execVorVX (vd vs2 rs1 : RegNum) (vm : Bool) (s : State) : Result :=
  runSingle (.vorVX vd vs2 rs1 vm) vd vs2 (.scalar rs1) vm fOr s

/-- R206: `vor.vi vd, vs2, imm, vm`, `f(i) = a or b (bitwise)`. -/
def execVorVI (vd vs2 : RegNum) (imm : BitVec 5) (vm : Bool) (s : State) : Result :=
  runSingle (.vorVI vd vs2 imm vm) vd vs2 (.simm imm) vm fOr s

/-- R207: `vxor.vv vd, vs2, vs1, vm`, `f(i) = a xor b (bitwise)`. -/
def execVxorVV (vd vs2 vs1 : RegNum) (vm : Bool) (s : State) : Result :=
  runSingle (.vxorVV vd vs2 vs1 vm) vd vs2 (.vector vs1) vm fXor s

/-- R208: `vxor.vx vd, vs2, rs1, vm`, `f(i) = a xor b (bitwise)`. -/
def execVxorVX (vd vs2 rs1 : RegNum) (vm : Bool) (s : State) : Result :=
  runSingle (.vxorVX vd vs2 rs1 vm) vd vs2 (.scalar rs1) vm fXor s

/-- R209: `vxor.vi vd, vs2, imm, vm`, `f(i) = a xor b (bitwise)`. -/
def execVxorVI (vd vs2 : RegNum) (imm : BitVec 5) (vm : Bool) (s : State) : Result :=
  runSingle (.vxorVI vd vs2 imm vm) vd vs2 (.simm imm) vm fXor s

/-- R211: `vsll.vv vd, vs2, vs1, vm`, `f(i) = sll_SEW(a, sh)`. -/
def execVsllVV (vd vs2 vs1 : RegNum) (vm : Bool) (s : State) : Result :=
  runSingle (.vsllVV vd vs2 vs1 vm) vd vs2 (.vector vs1) vm fSll s

/-- R212: `vsll.vx vd, vs2, rs1, vm`, `f(i) = sll_SEW(a, sh)`. -/
def execVsllVX (vd vs2 rs1 : RegNum) (vm : Bool) (s : State) : Result :=
  runSingle (.vsllVX vd vs2 rs1 vm) vd vs2 (.scalar rs1) vm fSll s

/-- R213: `vsll.vi vd, vs2, uimm, vm`, `f(i) = sll_SEW(a, sh)`. -/
def execVsllVI (vd vs2 : RegNum) (uimm : BitVec 5) (vm : Bool) (s : State) : Result :=
  runSingle (.vsllVI vd vs2 uimm vm) vd vs2 (.uimm uimm) vm fSll s

/-- R214: `vsrl.vv vd, vs2, vs1, vm`, `f(i) = srl_SEW(a, sh)`. -/
def execVsrlVV (vd vs2 vs1 : RegNum) (vm : Bool) (s : State) : Result :=
  runSingle (.vsrlVV vd vs2 vs1 vm) vd vs2 (.vector vs1) vm fSrl s

/-- R215: `vsrl.vx vd, vs2, rs1, vm`, `f(i) = srl_SEW(a, sh)`. -/
def execVsrlVX (vd vs2 rs1 : RegNum) (vm : Bool) (s : State) : Result :=
  runSingle (.vsrlVX vd vs2 rs1 vm) vd vs2 (.scalar rs1) vm fSrl s

/-- R216: `vsrl.vi vd, vs2, uimm, vm`, `f(i) = srl_SEW(a, sh)`. -/
def execVsrlVI (vd vs2 : RegNum) (uimm : BitVec 5) (vm : Bool) (s : State) : Result :=
  runSingle (.vsrlVI vd vs2 uimm vm) vd vs2 (.uimm uimm) vm fSrl s

/-- R217: `vsra.vv vd, vs2, vs1, vm`, `f(i) = sra_SEW(a, sh)`. -/
def execVsraVV (vd vs2 vs1 : RegNum) (vm : Bool) (s : State) : Result :=
  runSingle (.vsraVV vd vs2 vs1 vm) vd vs2 (.vector vs1) vm fSra s

/-- R218: `vsra.vx vd, vs2, rs1, vm`, `f(i) = sra_SEW(a, sh)`. -/
def execVsraVX (vd vs2 rs1 : RegNum) (vm : Bool) (s : State) : Result :=
  runSingle (.vsraVX vd vs2 rs1 vm) vd vs2 (.scalar rs1) vm fSra s

/-- R219: `vsra.vi vd, vs2, uimm, vm`, `f(i) = sra_SEW(a, sh)`. -/
def execVsraVI (vd vs2 : RegNum) (uimm : BitVec 5) (vm : Bool) (s : State) : Result :=
  runSingle (.vsraVI vd vs2 uimm vm) vd vs2 (.uimm uimm) vm fSra s

/-- R222: `vnsrl.wv vd, vs2, vs1, vm`, `f(i) = trunc_SEW(srl_2SEW(a, sh))`. -/
def execVnsrlWV (vd vs2 vs1 : RegNum) (vm : Bool) (s : State) : Result :=
  runNarrow (.vnsrlWV vd vs2 vs1 vm) vd vs2 (.vector vs1) vm fNsrl s

/-- R223: `vnsrl.wx vd, vs2, rs1, vm`, `f(i) = trunc_SEW(srl_2SEW(a, sh))`. -/
def execVnsrlWX (vd vs2 rs1 : RegNum) (vm : Bool) (s : State) : Result :=
  runNarrow (.vnsrlWX vd vs2 rs1 vm) vd vs2 (.scalar rs1) vm fNsrl s

/-- R224: `vnsrl.wi vd, vs2, uimm, vm`, `f(i) = trunc_SEW(srl_2SEW(a, sh))`. -/
def execVnsrlWI (vd vs2 : RegNum) (uimm : BitVec 5) (vm : Bool) (s : State) : Result :=
  runNarrow (.vnsrlWI vd vs2 uimm vm) vd vs2 (.uimm uimm) vm fNsrl s

/-- R225: `vnsra.wv vd, vs2, vs1, vm`, `f(i) = trunc_SEW(sra_2SEW(a, sh))`. -/
def execVnsraWV (vd vs2 vs1 : RegNum) (vm : Bool) (s : State) : Result :=
  runNarrow (.vnsraWV vd vs2 vs1 vm) vd vs2 (.vector vs1) vm fNsra s

/-- R226: `vnsra.wx vd, vs2, rs1, vm`, `f(i) = trunc_SEW(sra_2SEW(a, sh))`. -/
def execVnsraWX (vd vs2 rs1 : RegNum) (vm : Bool) (s : State) : Result :=
  runNarrow (.vnsraWX vd vs2 rs1 vm) vd vs2 (.scalar rs1) vm fNsra s

/-- R227: `vnsra.wi vd, vs2, uimm, vm`, `f(i) = trunc_SEW(sra_2SEW(a, sh))`. -/
def execVnsraWI (vd vs2 : RegNum) (uimm : BitVec 5) (vm : Bool) (s : State) : Result :=
  runNarrow (.vnsraWI vd vs2 uimm vm) vd vs2 (.uimm uimm) vm fNsra s

end Sys2Proof.Machine
end

