-- ==== Sys2Proof/Machine/MergeMove.lean ====
section
/-! DEFINITION. Merge and move (the hint of R328 is an ordinary move): the meanings of 48_merge_move.md, R320 to R328, one per instruction. The family rules are R320, R324, R328; a checked instruction either completes with its element function or raises IllegalInstruction (R331). -/

namespace Sys2Proof.Machine

/-- R321: `vmerge.vvm vd, vs2, vs1, v0`, `f(i) = b if vmask(0,i) = 1 else a`. -/
def execVmergeVVM (vd vs2 vs1 : RegNum) (s : State) : Result :=
  runAllData (.vmergeVVM vd vs2 vs1) vd vs2 (.vector vs1) fMerge s

/-- R322: `vmerge.vxm vd, vs2, rs1, v0`, `f(i) = b if vmask(0,i) = 1 else a`. -/
def execVmergeVXM (vd vs2 rs1 : RegNum) (s : State) : Result :=
  runAllData (.vmergeVXM vd vs2 rs1) vd vs2 (.scalar rs1) fMerge s

/-- R323: `vmerge.vim vd, vs2, imm, v0`, `f(i) = b if vmask(0,i) = 1 else a`. -/
def execVmergeVIM (vd vs2 : RegNum) (imm : BitVec 5) (s : State) : Result :=
  runAllData (.vmergeVIM vd vs2 imm) vd vs2 (.simm imm) fMerge s

/-- R325: `vmv.v.v vd, vs1`, `f(i) = velem(vs1,SEW,i)`. -/
def execVmvVV (vd vs1 : RegNum) (s : State) : Result :=
  runMove (.vmvVV vd vs1) vd (.vector vs1) s

/-- R326: `vmv.v.x vd, rs1`, `f(i) = XS`. -/
def execVmvVX (vd rs1 : RegNum) (s : State) : Result :=
  runMove (.vmvVX vd rs1) vd (.scalar rs1) s

/-- R327: `vmv.v.i vd, imm`, `f(i) = IMM = sext_SEW(imm)`. -/
def execVmvVI (vd : RegNum) (imm : BitVec 5) (s : State) : Result :=
  runMove (.vmvVI vd imm) vd (.simm imm) s

end Sys2Proof.Machine
end

