-- ==== Sys2Proof/Machine/MinMaxMulDiv.lean ====
section
/-! DEFINITION. Minimum and maximum, multiply, divide and widening multiply: the meanings of 46_minmax_mul_div.md, R260 to R297, one per instruction. The family rules are R260, R270, R280, R290, R297; a checked instruction either completes with its element function or raises IllegalInstruction (R331). -/

namespace Sys2Proof.Machine

/-- R261: `vminu.vv vd, vs2, vs1, vm`, `f(i) = a if uint(a) <= uint(b) else b`. -/
def execVminuVV (vd vs2 vs1 : RegNum) (vm : Bool) (s : State) : Result :=
  runSingle (.vminuVV vd vs2 vs1 vm) vd vs2 (.vector vs1) vm fMinu s

/-- R262: `vminu.vx vd, vs2, rs1, vm`, `f(i) = a if uint(a) <= uint(b) else b`. -/
def execVminuVX (vd vs2 rs1 : RegNum) (vm : Bool) (s : State) : Result :=
  runSingle (.vminuVX vd vs2 rs1 vm) vd vs2 (.scalar rs1) vm fMinu s

/-- R263: `vmin.vv vd, vs2, vs1, vm`, `f(i) = a if sint(a) <= sint(b) else b`. -/
def execVminVV (vd vs2 vs1 : RegNum) (vm : Bool) (s : State) : Result :=
  runSingle (.vminVV vd vs2 vs1 vm) vd vs2 (.vector vs1) vm fMin s

/-- R264: `vmin.vx vd, vs2, rs1, vm`, `f(i) = a if sint(a) <= sint(b) else b`. -/
def execVminVX (vd vs2 rs1 : RegNum) (vm : Bool) (s : State) : Result :=
  runSingle (.vminVX vd vs2 rs1 vm) vd vs2 (.scalar rs1) vm fMin s

/-- R265: `vmaxu.vv vd, vs2, vs1, vm`, `f(i) = a if uint(a) >= uint(b) else b`. -/
def execVmaxuVV (vd vs2 vs1 : RegNum) (vm : Bool) (s : State) : Result :=
  runSingle (.vmaxuVV vd vs2 vs1 vm) vd vs2 (.vector vs1) vm fMaxu s

/-- R266: `vmaxu.vx vd, vs2, rs1, vm`, `f(i) = a if uint(a) >= uint(b) else b`. -/
def execVmaxuVX (vd vs2 rs1 : RegNum) (vm : Bool) (s : State) : Result :=
  runSingle (.vmaxuVX vd vs2 rs1 vm) vd vs2 (.scalar rs1) vm fMaxu s

/-- R267: `vmax.vv vd, vs2, vs1, vm`, `f(i) = a if sint(a) >= sint(b) else b`. -/
def execVmaxVV (vd vs2 vs1 : RegNum) (vm : Bool) (s : State) : Result :=
  runSingle (.vmaxVV vd vs2 vs1 vm) vd vs2 (.vector vs1) vm fMax s

/-- R268: `vmax.vx vd, vs2, rs1, vm`, `f(i) = a if sint(a) >= sint(b) else b`. -/
def execVmaxVX (vd vs2 rs1 : RegNum) (vm : Bool) (s : State) : Result :=
  runSingle (.vmaxVX vd vs2 rs1 vm) vd vs2 (.scalar rs1) vm fMax s

/-- R271: `vmul.vv vd, vs2, vs1, vm`, `f(i) = trunc_SEW(sint(a) * sint(b))`. -/
def execVmulVV (vd vs2 vs1 : RegNum) (vm : Bool) (s : State) : Result :=
  runSingle (.vmulVV vd vs2 vs1 vm) vd vs2 (.vector vs1) vm fMul s

/-- R272: `vmul.vx vd, vs2, rs1, vm`, `f(i) = trunc_SEW(sint(a) * sint(b))`. -/
def execVmulVX (vd vs2 rs1 : RegNum) (vm : Bool) (s : State) : Result :=
  runSingle (.vmulVX vd vs2 rs1 vm) vd vs2 (.scalar rs1) vm fMul s

/-- R273: `vmulh.vv vd, vs2, vs1, vm`, `f(i) = mulhi_SEW(sint(a) * sint(b))`. -/
def execVmulhVV (vd vs2 vs1 : RegNum) (vm : Bool) (s : State) : Result :=
  runSingle (.vmulhVV vd vs2 vs1 vm) vd vs2 (.vector vs1) vm fMulh s

/-- R274: `vmulh.vx vd, vs2, rs1, vm`, `f(i) = mulhi_SEW(sint(a) * sint(b))`. -/
def execVmulhVX (vd vs2 rs1 : RegNum) (vm : Bool) (s : State) : Result :=
  runSingle (.vmulhVX vd vs2 rs1 vm) vd vs2 (.scalar rs1) vm fMulh s

/-- R275: `vmulhu.vv vd, vs2, vs1, vm`, `f(i) = mulhi_SEW(uint(a) * uint(b))`. -/
def execVmulhuVV (vd vs2 vs1 : RegNum) (vm : Bool) (s : State) : Result :=
  runSingle (.vmulhuVV vd vs2 vs1 vm) vd vs2 (.vector vs1) vm fMulhu s

/-- R276: `vmulhu.vx vd, vs2, rs1, vm`, `f(i) = mulhi_SEW(uint(a) * uint(b))`. -/
def execVmulhuVX (vd vs2 rs1 : RegNum) (vm : Bool) (s : State) : Result :=
  runSingle (.vmulhuVX vd vs2 rs1 vm) vd vs2 (.scalar rs1) vm fMulhu s

/-- R277: `vmulhsu.vv vd, vs2, vs1, vm`, `f(i) = mulhi_SEW(sint(a) * uint(b))`. -/
def execVmulhsuVV (vd vs2 vs1 : RegNum) (vm : Bool) (s : State) : Result :=
  runSingle (.vmulhsuVV vd vs2 vs1 vm) vd vs2 (.vector vs1) vm fMulhsu s

/-- R278: `vmulhsu.vx vd, vs2, rs1, vm`, `f(i) = mulhi_SEW(sint(a) * uint(b))`. -/
def execVmulhsuVX (vd vs2 rs1 : RegNum) (vm : Bool) (s : State) : Result :=
  runSingle (.vmulhsuVX vd vs2 rs1 vm) vd vs2 (.scalar rs1) vm fMulhsu s

/-- R282: `vdivu.vv vd, vs2, vs1, vm`, `f(i) = divu_SEW(a, b)`. -/
def execVdivuVV (vd vs2 vs1 : RegNum) (vm : Bool) (s : State) : Result :=
  runSingle (.vdivuVV vd vs2 vs1 vm) vd vs2 (.vector vs1) vm fDivu s

/-- R283: `vdivu.vx vd, vs2, rs1, vm`, `f(i) = divu_SEW(a, b)`. -/
def execVdivuVX (vd vs2 rs1 : RegNum) (vm : Bool) (s : State) : Result :=
  runSingle (.vdivuVX vd vs2 rs1 vm) vd vs2 (.scalar rs1) vm fDivu s

/-- R284: `vdiv.vv vd, vs2, vs1, vm`, `f(i) = div_SEW(a, b)`. -/
def execVdivVV (vd vs2 vs1 : RegNum) (vm : Bool) (s : State) : Result :=
  runSingle (.vdivVV vd vs2 vs1 vm) vd vs2 (.vector vs1) vm fDiv s

/-- R285: `vdiv.vx vd, vs2, rs1, vm`, `f(i) = div_SEW(a, b)`. -/
def execVdivVX (vd vs2 rs1 : RegNum) (vm : Bool) (s : State) : Result :=
  runSingle (.vdivVX vd vs2 rs1 vm) vd vs2 (.scalar rs1) vm fDiv s

/-- R286: `vremu.vv vd, vs2, vs1, vm`, `f(i) = remu_SEW(a, b)`. -/
def execVremuVV (vd vs2 vs1 : RegNum) (vm : Bool) (s : State) : Result :=
  runSingle (.vremuVV vd vs2 vs1 vm) vd vs2 (.vector vs1) vm fRemu s

/-- R287: `vremu.vx vd, vs2, rs1, vm`, `f(i) = remu_SEW(a, b)`. -/
def execVremuVX (vd vs2 rs1 : RegNum) (vm : Bool) (s : State) : Result :=
  runSingle (.vremuVX vd vs2 rs1 vm) vd vs2 (.scalar rs1) vm fRemu s

/-- R288: `vrem.vv vd, vs2, vs1, vm`, `f(i) = rem_SEW(a, b)`. -/
def execVremVV (vd vs2 vs1 : RegNum) (vm : Bool) (s : State) : Result :=
  runSingle (.vremVV vd vs2 vs1 vm) vd vs2 (.vector vs1) vm fRem s

/-- R289: `vrem.vx vd, vs2, rs1, vm`, `f(i) = rem_SEW(a, b)`. -/
def execVremVX (vd vs2 rs1 : RegNum) (vm : Bool) (s : State) : Result :=
  runSingle (.vremVX vd vs2 rs1 vm) vd vs2 (.scalar rs1) vm fRem s

/-- R291: `vwmul.vv vd, vs2, vs1, vm`, `f(i) = trunc_2SEW(sint(a) * sint(b))`. -/
def execVwmulVV (vd vs2 vs1 : RegNum) (vm : Bool) (s : State) : Result :=
  runWiden (.vwmulVV vd vs2 vs1 vm) vd vs2 (.vector vs1) vm fWmul s

/-- R292: `vwmul.vx vd, vs2, rs1, vm`, `f(i) = trunc_2SEW(sint(a) * sint(b))`. -/
def execVwmulVX (vd vs2 rs1 : RegNum) (vm : Bool) (s : State) : Result :=
  runWiden (.vwmulVX vd vs2 rs1 vm) vd vs2 (.scalar rs1) vm fWmul s

/-- R293: `vwmulu.vv vd, vs2, vs1, vm`, `f(i) = trunc_2SEW(uint(a) * uint(b))`. -/
def execVwmuluVV (vd vs2 vs1 : RegNum) (vm : Bool) (s : State) : Result :=
  runWiden (.vwmuluVV vd vs2 vs1 vm) vd vs2 (.vector vs1) vm fWmulu s

/-- R294: `vwmulu.vx vd, vs2, rs1, vm`, `f(i) = trunc_2SEW(uint(a) * uint(b))`. -/
def execVwmuluVX (vd vs2 rs1 : RegNum) (vm : Bool) (s : State) : Result :=
  runWiden (.vwmuluVX vd vs2 rs1 vm) vd vs2 (.scalar rs1) vm fWmulu s

/-- R295: `vwmulsu.vv vd, vs2, vs1, vm`, `f(i) = trunc_2SEW(sint(a) * uint(b))`. -/
def execVwmulsuVV (vd vs2 vs1 : RegNum) (vm : Bool) (s : State) : Result :=
  runWiden (.vwmulsuVV vd vs2 vs1 vm) vd vs2 (.vector vs1) vm fWmulsu s

/-- R296: `vwmulsu.vx vd, vs2, rs1, vm`, `f(i) = trunc_2SEW(sint(a) * uint(b))`. -/
def execVwmulsuVX (vd vs2 rs1 : RegNum) (vm : Bool) (s : State) : Result :=
  runWiden (.vwmulsuVX vd vs2 rs1 vm) vd vs2 (.scalar rs1) vm fWmulsu s

end Sys2Proof.Machine
end

