-- ==== Sys2Proof/Machine/MultiplyAdd.lean ====
section
/-! DEFINITION. Single-width and widening multiply-add: the meanings of 47_multiply_add.md, R300 to R318, one per instruction. The family rules are R300, R310, R318; a checked instruction either completes with its element function or raises IllegalInstruction (R331). -/

namespace Sys2Proof.Machine

/-- R301: `vmacc.vv vd, vs1, vs2, vm`, `f(i) = trunc_SEW(uint(b) * uint(a) + uint(d))`. -/
def execVmaccVV (vd vs1 vs2 : RegNum) (vm : Bool) (s : State) : Result :=
  runMac (.vmaccVV vd vs1 vs2 vm) vd vs2 (.vector vs1) vm fMacc s

/-- R302: `vmacc.vx vd, rs1, vs2, vm`, `f(i) = trunc_SEW(uint(b) * uint(a) + uint(d))`. -/
def execVmaccVX (vd rs1 vs2 : RegNum) (vm : Bool) (s : State) : Result :=
  runMac (.vmaccVX vd rs1 vs2 vm) vd vs2 (.scalar rs1) vm fMacc s

/-- R303: `vnmsac.vv vd, vs1, vs2, vm`, `f(i) = trunc_SEW(uint(d) - uint(b) * uint(a))`. -/
def execVnmsacVV (vd vs1 vs2 : RegNum) (vm : Bool) (s : State) : Result :=
  runMac (.vnmsacVV vd vs1 vs2 vm) vd vs2 (.vector vs1) vm fNmsac s

/-- R304: `vnmsac.vx vd, rs1, vs2, vm`, `f(i) = trunc_SEW(uint(d) - uint(b) * uint(a))`. -/
def execVnmsacVX (vd rs1 vs2 : RegNum) (vm : Bool) (s : State) : Result :=
  runMac (.vnmsacVX vd rs1 vs2 vm) vd vs2 (.scalar rs1) vm fNmsac s

/-- R305: `vmadd.vv vd, vs1, vs2, vm`, `f(i) = trunc_SEW(uint(b) * uint(d) + uint(a))`. -/
def execVmaddVV (vd vs1 vs2 : RegNum) (vm : Bool) (s : State) : Result :=
  runMac (.vmaddVV vd vs1 vs2 vm) vd vs2 (.vector vs1) vm fMadd s

/-- R306: `vmadd.vx vd, rs1, vs2, vm`, `f(i) = trunc_SEW(uint(b) * uint(d) + uint(a))`. -/
def execVmaddVX (vd rs1 vs2 : RegNum) (vm : Bool) (s : State) : Result :=
  runMac (.vmaddVX vd rs1 vs2 vm) vd vs2 (.scalar rs1) vm fMadd s

/-- R307: `vnmsub.vv vd, vs1, vs2, vm`, `f(i) = trunc_SEW(uint(a) - uint(b) * uint(d))`. -/
def execVnmsubVV (vd vs1 vs2 : RegNum) (vm : Bool) (s : State) : Result :=
  runMac (.vnmsubVV vd vs1 vs2 vm) vd vs2 (.vector vs1) vm fNmsub s

/-- R308: `vnmsub.vx vd, rs1, vs2, vm`, `f(i) = trunc_SEW(uint(a) - uint(b) * uint(d))`. -/
def execVnmsubVX (vd rs1 vs2 : RegNum) (vm : Bool) (s : State) : Result :=
  runMac (.vnmsubVX vd rs1 vs2 vm) vd vs2 (.scalar rs1) vm fNmsub s

/-- R311: `vwmaccu.vv vd, vs1, vs2, vm`, `f(i) = trunc_2SEW(uint(b) * uint(a) + uint(d))`. -/
def execVwmaccuVV (vd vs1 vs2 : RegNum) (vm : Bool) (s : State) : Result :=
  runWidenMac (.vwmaccuVV vd vs1 vs2 vm) vd vs2 (.vector vs1) vm fWmaccu s

/-- R312: `vwmaccu.vx vd, rs1, vs2, vm`, `f(i) = trunc_2SEW(uint(b) * uint(a) + uint(d))`. -/
def execVwmaccuVX (vd rs1 vs2 : RegNum) (vm : Bool) (s : State) : Result :=
  runWidenMac (.vwmaccuVX vd rs1 vs2 vm) vd vs2 (.scalar rs1) vm fWmaccu s

/-- R313: `vwmacc.vv vd, vs1, vs2, vm`, `f(i) = trunc_2SEW(sint(b) * sint(a) + uint(d))`. -/
def execVwmaccVV (vd vs1 vs2 : RegNum) (vm : Bool) (s : State) : Result :=
  runWidenMac (.vwmaccVV vd vs1 vs2 vm) vd vs2 (.vector vs1) vm fWmacc s

/-- R314: `vwmacc.vx vd, rs1, vs2, vm`, `f(i) = trunc_2SEW(sint(b) * sint(a) + uint(d))`. -/
def execVwmaccVX (vd rs1 vs2 : RegNum) (vm : Bool) (s : State) : Result :=
  runWidenMac (.vwmaccVX vd rs1 vs2 vm) vd vs2 (.scalar rs1) vm fWmacc s

/-- R315: `vwmaccsu.vv vd, vs1, vs2, vm`, `f(i) = trunc_2SEW(sint(b) * uint(a) + uint(d))`. -/
def execVwmaccsuVV (vd vs1 vs2 : RegNum) (vm : Bool) (s : State) : Result :=
  runWidenMac (.vwmaccsuVV vd vs1 vs2 vm) vd vs2 (.vector vs1) vm fWmaccsu s

/-- R316: `vwmaccsu.vx vd, rs1, vs2, vm`, `f(i) = trunc_2SEW(sint(b) * uint(a) + uint(d))`. -/
def execVwmaccsuVX (vd rs1 vs2 : RegNum) (vm : Bool) (s : State) : Result :=
  runWidenMac (.vwmaccsuVX vd rs1 vs2 vm) vd vs2 (.scalar rs1) vm fWmaccsu s

/-- R317: `vwmaccus.vx vd, rs1, vs2, vm`, `f(i) = trunc_2SEW(uint(b) * sint(a) + uint(d))`. -/
def execVwmaccusVX (vd rs1 vs2 : RegNum) (vm : Bool) (s : State) : Result :=
  runWidenMac (.vwmaccusVX vd rs1 vs2 vm) vd vs2 (.scalar rs1) vm fWmaccus s

end Sys2Proof.Machine
end

