-- ==== Sys2Proof/Machine/Dispatch.lean ====
section
/-! DEFINITION. One arm per instruction (00_scope.md R3). -/

namespace Sys2Proof.Machine

/-- What an instruction does in a state. -/
def exec (i : Instr) (s : State) : Host.Outcome State Fault Refusal :=
  match i with
  -- 41_add_sub.md, R140 to R167
  | .vaddVV vd vs2 vs1 vm => Sys2Proof.Machine.execVaddVV vd vs2 vs1 vm s
  | .vaddVX vd vs2 rs1 vm => Sys2Proof.Machine.execVaddVX vd vs2 rs1 vm s
  | .vaddVI vd vs2 imm vm => Sys2Proof.Machine.execVaddVI vd vs2 imm vm s
  | .vsubVV vd vs2 vs1 vm => Sys2Proof.Machine.execVsubVV vd vs2 vs1 vm s
  | .vsubVX vd vs2 rs1 vm => Sys2Proof.Machine.execVsubVX vd vs2 rs1 vm s
  | .vrsubVX vd vs2 rs1 vm => Sys2Proof.Machine.execVrsubVX vd vs2 rs1 vm s
  | .vrsubVI vd vs2 imm vm => Sys2Proof.Machine.execVrsubVI vd vs2 imm vm s
  | .vwadduVV vd vs2 vs1 vm => Sys2Proof.Machine.execVwadduVV vd vs2 vs1 vm s
  | .vwadduVX vd vs2 rs1 vm => Sys2Proof.Machine.execVwadduVX vd vs2 rs1 vm s
  | .vwsubuVV vd vs2 vs1 vm => Sys2Proof.Machine.execVwsubuVV vd vs2 vs1 vm s
  | .vwsubuVX vd vs2 rs1 vm => Sys2Proof.Machine.execVwsubuVX vd vs2 rs1 vm s
  | .vwaddVV vd vs2 vs1 vm => Sys2Proof.Machine.execVwaddVV vd vs2 vs1 vm s
  | .vwaddVX vd vs2 rs1 vm => Sys2Proof.Machine.execVwaddVX vd vs2 rs1 vm s
  | .vwsubVV vd vs2 vs1 vm => Sys2Proof.Machine.execVwsubVV vd vs2 vs1 vm s
  | .vwsubVX vd vs2 rs1 vm => Sys2Proof.Machine.execVwsubVX vd vs2 rs1 vm s
  | .vwadduWV vd vs2 vs1 vm => Sys2Proof.Machine.execVwadduWV vd vs2 vs1 vm s
  | .vwadduWX vd vs2 rs1 vm => Sys2Proof.Machine.execVwadduWX vd vs2 rs1 vm s
  | .vwsubuWV vd vs2 vs1 vm => Sys2Proof.Machine.execVwsubuWV vd vs2 vs1 vm s
  | .vwsubuWX vd vs2 rs1 vm => Sys2Proof.Machine.execVwsubuWX vd vs2 rs1 vm s
  | .vwaddWV vd vs2 vs1 vm => Sys2Proof.Machine.execVwaddWV vd vs2 vs1 vm s
  | .vwaddWX vd vs2 rs1 vm => Sys2Proof.Machine.execVwaddWX vd vs2 rs1 vm s
  | .vwsubWV vd vs2 vs1 vm => Sys2Proof.Machine.execVwsubWV vd vs2 vs1 vm s
  | .vwsubWX vd vs2 rs1 vm => Sys2Proof.Machine.execVwsubWX vd vs2 rs1 vm s
  -- 42_extension.md, R170 to R177
  | .vzextVF2 vd vs2 vm => Sys2Proof.Machine.execVzextVF2 vd vs2 vm s
  | .vsextVF2 vd vs2 vm => Sys2Proof.Machine.execVsextVF2 vd vs2 vm s
  | .vzextVF4 vd vs2 vm => Sys2Proof.Machine.execVzextVF4 vd vs2 vm s
  | .vsextVF4 vd vs2 vm => Sys2Proof.Machine.execVsextVF4 vd vs2 vm s
  | .vzextVF8 vd vs2 vm => Sys2Proof.Machine.execVzextVF8 vd vs2 vm s
  | .vsextVF8 vd vs2 vm => Sys2Proof.Machine.execVsextVF8 vd vs2 vm s
  -- 43_carry.md, R180 to R199
  | .vadcVVM vd vs2 vs1 => Sys2Proof.Machine.execVadcVVM vd vs2 vs1 s
  | .vadcVXM vd vs2 rs1 => Sys2Proof.Machine.execVadcVXM vd vs2 rs1 s
  | .vadcVIM vd vs2 imm => Sys2Proof.Machine.execVadcVIM vd vs2 imm s
  | .vmadcVVM vd vs2 vs1 => Sys2Proof.Machine.execVmadcVVM vd vs2 vs1 s
  | .vmadcVXM vd vs2 rs1 => Sys2Proof.Machine.execVmadcVXM vd vs2 rs1 s
  | .vmadcVIM vd vs2 imm => Sys2Proof.Machine.execVmadcVIM vd vs2 imm s
  | .vmadcVV vd vs2 vs1 => Sys2Proof.Machine.execVmadcVV vd vs2 vs1 s
  | .vmadcVX vd vs2 rs1 => Sys2Proof.Machine.execVmadcVX vd vs2 rs1 s
  | .vmadcVI vd vs2 imm => Sys2Proof.Machine.execVmadcVI vd vs2 imm s
  | .vsbcVVM vd vs2 vs1 => Sys2Proof.Machine.execVsbcVVM vd vs2 vs1 s
  | .vsbcVXM vd vs2 rs1 => Sys2Proof.Machine.execVsbcVXM vd vs2 rs1 s
  | .vmsbcVVM vd vs2 vs1 => Sys2Proof.Machine.execVmsbcVVM vd vs2 vs1 s
  | .vmsbcVXM vd vs2 rs1 => Sys2Proof.Machine.execVmsbcVXM vd vs2 rs1 s
  | .vmsbcVV vd vs2 vs1 => Sys2Proof.Machine.execVmsbcVV vd vs2 vs1 s
  | .vmsbcVX vd vs2 rs1 => Sys2Proof.Machine.execVmsbcVX vd vs2 rs1 s
  -- 44_logical_shift.md, R200 to R228
  | .vandVV vd vs2 vs1 vm => Sys2Proof.Machine.execVandVV vd vs2 vs1 vm s
  | .vandVX vd vs2 rs1 vm => Sys2Proof.Machine.execVandVX vd vs2 rs1 vm s
  | .vandVI vd vs2 imm vm => Sys2Proof.Machine.execVandVI vd vs2 imm vm s
  | .vorVV vd vs2 vs1 vm => Sys2Proof.Machine.execVorVV vd vs2 vs1 vm s
  | .vorVX vd vs2 rs1 vm => Sys2Proof.Machine.execVorVX vd vs2 rs1 vm s
  | .vorVI vd vs2 imm vm => Sys2Proof.Machine.execVorVI vd vs2 imm vm s
  | .vxorVV vd vs2 vs1 vm => Sys2Proof.Machine.execVxorVV vd vs2 vs1 vm s
  | .vxorVX vd vs2 rs1 vm => Sys2Proof.Machine.execVxorVX vd vs2 rs1 vm s
  | .vxorVI vd vs2 imm vm => Sys2Proof.Machine.execVxorVI vd vs2 imm vm s
  | .vsllVV vd vs2 vs1 vm => Sys2Proof.Machine.execVsllVV vd vs2 vs1 vm s
  | .vsllVX vd vs2 rs1 vm => Sys2Proof.Machine.execVsllVX vd vs2 rs1 vm s
  | .vsllVI vd vs2 uimm vm => Sys2Proof.Machine.execVsllVI vd vs2 uimm vm s
  | .vsrlVV vd vs2 vs1 vm => Sys2Proof.Machine.execVsrlVV vd vs2 vs1 vm s
  | .vsrlVX vd vs2 rs1 vm => Sys2Proof.Machine.execVsrlVX vd vs2 rs1 vm s
  | .vsrlVI vd vs2 uimm vm => Sys2Proof.Machine.execVsrlVI vd vs2 uimm vm s
  | .vsraVV vd vs2 vs1 vm => Sys2Proof.Machine.execVsraVV vd vs2 vs1 vm s
  | .vsraVX vd vs2 rs1 vm => Sys2Proof.Machine.execVsraVX vd vs2 rs1 vm s
  | .vsraVI vd vs2 uimm vm => Sys2Proof.Machine.execVsraVI vd vs2 uimm vm s
  | .vnsrlWV vd vs2 vs1 vm => Sys2Proof.Machine.execVnsrlWV vd vs2 vs1 vm s
  | .vnsrlWX vd vs2 rs1 vm => Sys2Proof.Machine.execVnsrlWX vd vs2 rs1 vm s
  | .vnsrlWI vd vs2 uimm vm => Sys2Proof.Machine.execVnsrlWI vd vs2 uimm vm s
  | .vnsraWV vd vs2 vs1 vm => Sys2Proof.Machine.execVnsraWV vd vs2 vs1 vm s
  | .vnsraWX vd vs2 rs1 vm => Sys2Proof.Machine.execVnsraWX vd vs2 rs1 vm s
  | .vnsraWI vd vs2 uimm vm => Sys2Proof.Machine.execVnsraWI vd vs2 uimm vm s
  -- 45_compare.md, R230 to R254
  | .vmseqVV vd vs2 vs1 vm => Sys2Proof.Machine.execVmseqVV vd vs2 vs1 vm s
  | .vmseqVX vd vs2 rs1 vm => Sys2Proof.Machine.execVmseqVX vd vs2 rs1 vm s
  | .vmseqVI vd vs2 imm vm => Sys2Proof.Machine.execVmseqVI vd vs2 imm vm s
  | .vmsneVV vd vs2 vs1 vm => Sys2Proof.Machine.execVmsneVV vd vs2 vs1 vm s
  | .vmsneVX vd vs2 rs1 vm => Sys2Proof.Machine.execVmsneVX vd vs2 rs1 vm s
  | .vmsneVI vd vs2 imm vm => Sys2Proof.Machine.execVmsneVI vd vs2 imm vm s
  | .vmsltuVV vd vs2 vs1 vm => Sys2Proof.Machine.execVmsltuVV vd vs2 vs1 vm s
  | .vmsltuVX vd vs2 rs1 vm => Sys2Proof.Machine.execVmsltuVX vd vs2 rs1 vm s
  | .vmsltVV vd vs2 vs1 vm => Sys2Proof.Machine.execVmsltVV vd vs2 vs1 vm s
  | .vmsltVX vd vs2 rs1 vm => Sys2Proof.Machine.execVmsltVX vd vs2 rs1 vm s
  | .vmsleuVV vd vs2 vs1 vm => Sys2Proof.Machine.execVmsleuVV vd vs2 vs1 vm s
  | .vmsleuVX vd vs2 rs1 vm => Sys2Proof.Machine.execVmsleuVX vd vs2 rs1 vm s
  | .vmsleuVI vd vs2 imm vm => Sys2Proof.Machine.execVmsleuVI vd vs2 imm vm s
  | .vmsleVV vd vs2 vs1 vm => Sys2Proof.Machine.execVmsleVV vd vs2 vs1 vm s
  | .vmsleVX vd vs2 rs1 vm => Sys2Proof.Machine.execVmsleVX vd vs2 rs1 vm s
  | .vmsleVI vd vs2 imm vm => Sys2Proof.Machine.execVmsleVI vd vs2 imm vm s
  | .vmsgtuVX vd vs2 rs1 vm => Sys2Proof.Machine.execVmsgtuVX vd vs2 rs1 vm s
  | .vmsgtuVI vd vs2 imm vm => Sys2Proof.Machine.execVmsgtuVI vd vs2 imm vm s
  | .vmsgtVX vd vs2 rs1 vm => Sys2Proof.Machine.execVmsgtVX vd vs2 rs1 vm s
  | .vmsgtVI vd vs2 imm vm => Sys2Proof.Machine.execVmsgtVI vd vs2 imm vm s
  -- 46_minmax_mul_div.md, R260 to R297
  | .vminuVV vd vs2 vs1 vm => Sys2Proof.Machine.execVminuVV vd vs2 vs1 vm s
  | .vminuVX vd vs2 rs1 vm => Sys2Proof.Machine.execVminuVX vd vs2 rs1 vm s
  | .vminVV vd vs2 vs1 vm => Sys2Proof.Machine.execVminVV vd vs2 vs1 vm s
  | .vminVX vd vs2 rs1 vm => Sys2Proof.Machine.execVminVX vd vs2 rs1 vm s
  | .vmaxuVV vd vs2 vs1 vm => Sys2Proof.Machine.execVmaxuVV vd vs2 vs1 vm s
  | .vmaxuVX vd vs2 rs1 vm => Sys2Proof.Machine.execVmaxuVX vd vs2 rs1 vm s
  | .vmaxVV vd vs2 vs1 vm => Sys2Proof.Machine.execVmaxVV vd vs2 vs1 vm s
  | .vmaxVX vd vs2 rs1 vm => Sys2Proof.Machine.execVmaxVX vd vs2 rs1 vm s
  | .vmulVV vd vs2 vs1 vm => Sys2Proof.Machine.execVmulVV vd vs2 vs1 vm s
  | .vmulVX vd vs2 rs1 vm => Sys2Proof.Machine.execVmulVX vd vs2 rs1 vm s
  | .vmulhVV vd vs2 vs1 vm => Sys2Proof.Machine.execVmulhVV vd vs2 vs1 vm s
  | .vmulhVX vd vs2 rs1 vm => Sys2Proof.Machine.execVmulhVX vd vs2 rs1 vm s
  | .vmulhuVV vd vs2 vs1 vm => Sys2Proof.Machine.execVmulhuVV vd vs2 vs1 vm s
  | .vmulhuVX vd vs2 rs1 vm => Sys2Proof.Machine.execVmulhuVX vd vs2 rs1 vm s
  | .vmulhsuVV vd vs2 vs1 vm => Sys2Proof.Machine.execVmulhsuVV vd vs2 vs1 vm s
  | .vmulhsuVX vd vs2 rs1 vm => Sys2Proof.Machine.execVmulhsuVX vd vs2 rs1 vm s
  | .vdivuVV vd vs2 vs1 vm => Sys2Proof.Machine.execVdivuVV vd vs2 vs1 vm s
  | .vdivuVX vd vs2 rs1 vm => Sys2Proof.Machine.execVdivuVX vd vs2 rs1 vm s
  | .vdivVV vd vs2 vs1 vm => Sys2Proof.Machine.execVdivVV vd vs2 vs1 vm s
  | .vdivVX vd vs2 rs1 vm => Sys2Proof.Machine.execVdivVX vd vs2 rs1 vm s
  | .vremuVV vd vs2 vs1 vm => Sys2Proof.Machine.execVremuVV vd vs2 vs1 vm s
  | .vremuVX vd vs2 rs1 vm => Sys2Proof.Machine.execVremuVX vd vs2 rs1 vm s
  | .vremVV vd vs2 vs1 vm => Sys2Proof.Machine.execVremVV vd vs2 vs1 vm s
  | .vremVX vd vs2 rs1 vm => Sys2Proof.Machine.execVremVX vd vs2 rs1 vm s
  | .vwmulVV vd vs2 vs1 vm => Sys2Proof.Machine.execVwmulVV vd vs2 vs1 vm s
  | .vwmulVX vd vs2 rs1 vm => Sys2Proof.Machine.execVwmulVX vd vs2 rs1 vm s
  | .vwmuluVV vd vs2 vs1 vm => Sys2Proof.Machine.execVwmuluVV vd vs2 vs1 vm s
  | .vwmuluVX vd vs2 rs1 vm => Sys2Proof.Machine.execVwmuluVX vd vs2 rs1 vm s
  | .vwmulsuVV vd vs2 vs1 vm => Sys2Proof.Machine.execVwmulsuVV vd vs2 vs1 vm s
  | .vwmulsuVX vd vs2 rs1 vm => Sys2Proof.Machine.execVwmulsuVX vd vs2 rs1 vm s
  -- 47_multiply_add.md, R300 to R318
  | .vmaccVV vd vs1 vs2 vm => Sys2Proof.Machine.execVmaccVV vd vs1 vs2 vm s
  | .vmaccVX vd rs1 vs2 vm => Sys2Proof.Machine.execVmaccVX vd rs1 vs2 vm s
  | .vnmsacVV vd vs1 vs2 vm => Sys2Proof.Machine.execVnmsacVV vd vs1 vs2 vm s
  | .vnmsacVX vd rs1 vs2 vm => Sys2Proof.Machine.execVnmsacVX vd rs1 vs2 vm s
  | .vmaddVV vd vs1 vs2 vm => Sys2Proof.Machine.execVmaddVV vd vs1 vs2 vm s
  | .vmaddVX vd rs1 vs2 vm => Sys2Proof.Machine.execVmaddVX vd rs1 vs2 vm s
  | .vnmsubVV vd vs1 vs2 vm => Sys2Proof.Machine.execVnmsubVV vd vs1 vs2 vm s
  | .vnmsubVX vd rs1 vs2 vm => Sys2Proof.Machine.execVnmsubVX vd rs1 vs2 vm s
  | .vwmaccuVV vd vs1 vs2 vm => Sys2Proof.Machine.execVwmaccuVV vd vs1 vs2 vm s
  | .vwmaccuVX vd rs1 vs2 vm => Sys2Proof.Machine.execVwmaccuVX vd rs1 vs2 vm s
  | .vwmaccVV vd vs1 vs2 vm => Sys2Proof.Machine.execVwmaccVV vd vs1 vs2 vm s
  | .vwmaccVX vd rs1 vs2 vm => Sys2Proof.Machine.execVwmaccVX vd rs1 vs2 vm s
  | .vwmaccsuVV vd vs1 vs2 vm => Sys2Proof.Machine.execVwmaccsuVV vd vs1 vs2 vm s
  | .vwmaccsuVX vd rs1 vs2 vm => Sys2Proof.Machine.execVwmaccsuVX vd rs1 vs2 vm s
  | .vwmaccusVX vd rs1 vs2 vm => Sys2Proof.Machine.execVwmaccusVX vd rs1 vs2 vm s
  -- 48_merge_move.md, R320 to R328
  | .vmergeVVM vd vs2 vs1 => Sys2Proof.Machine.execVmergeVVM vd vs2 vs1 s
  | .vmergeVXM vd vs2 rs1 => Sys2Proof.Machine.execVmergeVXM vd vs2 rs1 s
  | .vmergeVIM vd vs2 imm => Sys2Proof.Machine.execVmergeVIM vd vs2 imm s
  | .vmvVV vd vs1 => Sys2Proof.Machine.execVmvVV vd vs1 s
  | .vmvVX vd rs1 => Sys2Proof.Machine.execVmvVX vd rs1 s
  | .vmvVI vd imm => Sys2Proof.Machine.execVmvVI vd imm s

end Sys2Proof.Machine
end

