-- ==== Sys2Proof/Machine/Step.lean ====
section
/-! DEFINITION. One step: fetch, decode, execute (20_memory.md R52; 30_encoding.md R74; 40_execution_model.md R100). -/

namespace Sys2Proof.Machine

/-- One step of the hart: the instruction at `pc`; a reserved encoding raises IllegalInstruction (R87, R331), a word
outside the spec is refused (R89). -/
def step (s : State) : Host.Outcome State Fault Refusal :=
  match s.fetch with
  | .error r => .refused r
  | .ok w =>
    match decodeWord w with
    | .instr i => exec i s
    | .reserved => raise w
    | .outside => .refused (.outsideTable w)
    | .short => .refused .endOfText

/-- The state with the instruction whose bits are `w` (the bits above `nbits` zero) placed at `pc`, where `step`
fetches it (R52). It stands for the loading of program text from outside the machine (R352; log 6). -/
def State.withFetchWord (s : State) (nbits w : Nat) : State := s.storeWord s.pcAddr (BitVec.ofNat 32 (w % 2 ^ nbits))

end Sys2Proof.Machine
end

