-- ==== Sys2Proof/Safety.lean ====
section
/-! DEFINITION. The terms claims use: the states an instruction may start from (10_state.md R41; 40_execution_model.md
R100), the register constraints as the family rules spell them (R151, R171, R184, R228, R232, R297, R318, R320, R324),
what an instruction leaves unchanged (R120), what a destination holds (R107 to R113), the invariant of every step, and
how a run ends (R19). None of the meanings uses this file. -/

namespace Sys2Proof.Machine

/-- The conditions of steps (2) and (3) of R100, with R38 and R41: the vector unit is on, the configuration is a
supported one, and `vstart` does not trap. -/
def Ready (s : State) : Bool := s.vs != .off && !s.vtype.vill && s.launchOk && (s.vstart == 0 || !s.cfg.vstartTrap)

/-! ### The register constraints, family by family -/

/-- How many registers `m8` eighths of a register occupy (R24). -/
def regCount (m8 : Nat) : Nat := max 1 (m8 / 8)

/-- A register number is a multiple of the group size when that is above 1 (R105). -/
def multipleOf (m8 : Nat) (r : RegNum) : Bool := m8 ≤ 8 || r.toNat % (m8 / 8) == 0

/-- Two groups share no register. -/
def disjoint (r : RegNum) (m8 : Nat) (r' : RegNum) (m8' : Nat) : Bool :=
  r.toNat + regCount m8 ≤ r'.toNat || r'.toNat + regCount m8' ≤ r.toNat

/-- A narrower source shares no register with the destination, or is its highest-numbered part with a source `EMUL` of
at least 1 (R106(c), R151, R171). -/
def disjointOrTop (vd : RegNum) (d8 : Nat) (r : RegNum) (m8 : Nat) : Bool :=
  disjoint vd d8 r m8 || (8 ≤ m8 && r.toNat + regCount m8 == vd.toNat + regCount d8)

/-- The encoding is not reserved at this configuration (R87(b), R87(f), R88), each shape as its family says. -/
def Legal (s : State) (i : Instr) : Bool :=
  let f := i.form
  let m := s.lmul8
  i.wellFormed &&
  match f.kind with
  | .single => multipleOf m f.vd && f.vs2.all (multipleOf m) && f.vs1.all (multipleOf m) -- R184, R320
  | .mac => multipleOf m f.vd && f.vs2.all (multipleOf m) && f.vs1.all (multipleOf m)
  | .move => multipleOf m f.vd && f.vs1.all (multipleOf m) -- R324
  | .mask => -- R184, R232(e)
    f.vs2.all (fun r => multipleOf m r && (f.vd == r || disjoint f.vd 8 r m)) &&
    f.vs1.all (fun r => multipleOf m r && (f.vd == r || disjoint f.vd 8 r m))
  | .widen => -- R151, R297
    2 * s.sew ≤ s.elen && m < 64 && multipleOf (2 * m) f.vd &&
    f.vs2.all (fun r => multipleOf m r && disjointOrTop f.vd (2 * m) r m) &&
    f.vs1.all (fun r => multipleOf m r && disjointOrTop f.vd (2 * m) r m)
  | .widenMac => -- R318
    2 * s.sew ≤ s.elen && m < 64 && multipleOf (2 * m) f.vd &&
    f.vs2.all (fun r => multipleOf m r && disjoint f.vd (2 * m) r m) &&
    f.vs1.all (fun r => multipleOf m r && disjoint f.vd (2 * m) r m)
  | .widenWide => -- R151
    2 * s.sew ≤ s.elen && m < 64 && multipleOf (2 * m) f.vd && f.vs2.all (multipleOf (2 * m)) &&
    f.vs1.all (fun r => multipleOf m r && disjointOrTop f.vd (2 * m) r m &&
      f.vs2.all fun r2 => disjoint r2 (2 * m) r m)
  | .narrow => -- R228
    2 * s.sew ≤ s.elen && m < 64 && multipleOf m f.vd &&
    f.vs2.all (fun r2 => multipleOf (2 * m) r2 && (f.vd == r2 || disjoint f.vd m r2 (2 * m))) &&
    f.vs1.all (fun r => multipleOf m r && f.vs2.all fun r2 => disjoint r2 (2 * m) r m)
  | .ext k => -- R171
    8 * k ≤ s.sew && k ≤ m && multipleOf m f.vd &&
    f.vs2.all (fun r => multipleOf (m / k) r && disjointOrTop f.vd m r (m / k))

/-! ### What an instruction does to the state -/

/-- R120, R22, R38: everything but the destination elements after an instruction that does not raise: no `x` register,
not `vtype`, not `vl`, no fixed-point register, no byte of the address space; `vstart` is 0 and `pc` is `pc + 4`
modulo `2^XLEN`. -/
structure Frame (s t : State) : Prop where
  cfg : t.cfg = s.cfg
  x : t.x = s.x
  vtype : t.vtype = s.vtype
  vl : t.vl = s.vl
  vxrm : t.vxrm = s.vxrm
  vxsat : t.vxsat = s.vxsat
  mem : ∀ a, t.readByte a = s.readByte a
  vstart : t.vstart = 0
  pc : t.pc.toNat = (s.pc.toNat + 4) % 2 ^ s.xbits
  vs : t.vs = .dirty
  draws : t.draws = s.draws + 1

/-- What a data destination holds, `w` bits an element, `m8` eighths of a register (R107, R110, R112, R113): every
register outside the group is unchanged, and so is every bit above `VLEN`; with an empty body the whole register file
is; else each element is by its class, an agnostic one its old value or all ones. -/
structure DataDest (s t : State) (vd : RegNum) (w m8 : Nat) (active : Nat → Bool) (f : Nat → BitVec w) : Prop where
  others : ∀ r, r < vd.toNat ∨ vd.toNat + regCount m8 ≤ r → regOf t.v r = regOf s.v r
  high : ∀ r b, s.vlen ≤ b → (regOf t.v r).getLsbD b = (regOf s.v r).getLsbD b
  empty : s.vl.toNat ≤ s.vstart.toNat → t.v = s.v
  onPrestart : ∀ e, e < s.vstart.toNat → e < regCount m8 * s.vlen / w → t.velem vd.toNat w e = s.velem vd.toNat w e
  onActive : ∀ e, s.vstart.toNat ≤ e → e < s.vl.toNat → active e = true → t.velem vd.toNat w e = f e
  onInactive : ∀ e, s.vstart.toNat ≤ e → e < s.vl.toNat → active e = false →
    t.velem vd.toNat w e = s.velem vd.toNat w e ∨ (s.vtype.vma = true ∧ t.velem vd.toNat w e = BitVec.allOnes w)
  onTail : ∀ e, s.vl.toNat ≤ e → e < regCount m8 * s.vlen / w →
    t.velem vd.toNat w e = s.velem vd.toNat w e ∨ (s.vtype.vta = true ∧ t.velem vd.toNat w e = BitVec.allOnes w)

/-- What a mask destination holds (R107, R111, R112, R113): as for data, but one register, one bit per element, and a
tail that is agnostic whatever `vta` says. -/
structure MaskDest (s t : State) (vd : RegNum) (active f : Nat → Bool) : Prop where
  others : ∀ r, r ≠ vd.toNat → regOf t.v r = regOf s.v r
  high : ∀ r b, s.vlen ≤ b → (regOf t.v r).getLsbD b = (regOf s.v r).getLsbD b
  empty : s.vl.toNat ≤ s.vstart.toNat → t.v = s.v
  onPrestart : ∀ e, e < s.vstart.toNat → t.vmask vd.toNat e = s.vmask vd.toNat e
  onActive : ∀ e, s.vstart.toNat ≤ e → e < s.vl.toNat → active e = true → t.vmask vd.toNat e = f e
  onInactive : ∀ e, s.vstart.toNat ≤ e → e < s.vl.toNat → active e = false →
    t.vmask vd.toNat e = s.vmask vd.toNat e ∨ (s.vtype.vma = true ∧ t.vmask vd.toNat e = true)
  onTail : ∀ e, s.vl.toNat ≤ e → e < s.vlen →
    t.vmask vd.toNat e = s.vmask vd.toNat e ∨ t.vmask vd.toNat e = true ∨ (e < s.vlmax ∧ t.vmask vd.toNat e = f e)

/-! ### The invariant of every step, and how a run ends -/

/-- Every address of the program text is below `2^XLEN` (R51). -/
def State.textInSpace (s : State) : Bool := s.mem.all fun c => c.1 < 2 ^ s.xbits

/-- The state is one the spec describes: the parameters in range (R6), `x[0]` zero (R20, R41), `x` and `pc` no wider
than `XLEN`, `v` no wider than `VLEN` (R22, R23), `pc` aligned (R54), the invariants of R41 where `vill` is 0, `vstart`
in its writable bits (R33), and the program text in canonical form. -/
structure State.Wf (s : State) : Prop where
  params : s.elen ≤ s.vlen
  x0 : s.x[0] = 0
  xWidth : ∀ r : Fin 32, s.x[r].toNat < 2 ^ s.xbits
  pcWidth : s.pc.toNat < 2 ^ s.xbits
  pcAligned : s.pc.toNat % 4 = 0
  vWidth : ∀ r : Fin 32, s.v[r].toNat < 2 ^ s.vlen
  config : s.vtype.vill = false → s.supported = true ∧ s.vl.toNat ≤ s.vlmax
  vstart : s.vstart.toNat < s.vlen
  text : Memory.wf s.mem = true
  space : s.textInSpace = true

/-- A run from `base` over `n` words has ended in success (R19). -/
def runSucceeded (base n : Nat) (s : State) : Prop := s.pcAddr = base + 4 * n

end Sys2Proof.Machine
end

