-- ==== Sys2Proof/Certificates/Slice0/Obligations.lean ====
section
/-! DEFINITION. The statements for the provers, from the spec's numbered rules. `Ready`, `Legal`, `Frame`, `DataDest`,
`MaskDest` and `State.Wf` are Sys2Proof/Safety.lean's. -/

open Sys2Proof Sys2Proof.Machine

namespace Sys2Proof.Statements

/-- The `funct6` values of R70 (OPIVV, OPIVI, OPIVX). -/
def integerFunct6 : List Nat :=
  [0b000000, 0b000010, 0b000011, 0b000100, 0b000101, 0b000110, 0b000111, 0b001001, 0b001010, 0b001011, 0b010000, 0b010001, 0b010010, 0b010011,
   0b010111, 0b011000, 0b011001, 0b011010, 0b011011, 0b011100, 0b011101, 0b011110, 0b011111,
   0b100101, 0b101000, 0b101001, 0b101100, 0b101101]

/-- The `funct6` values of R71 (OPMVV, OPMVX). -/
def multiplyFunct6 : List Nat :=
  [0b010010, 0b100000, 0b100001, 0b100010, 0b100011, 0b100100, 0b100101, 0b100110, 0b100111,
   0b101001, 0b101011, 0b101101, 0b101111, 0b110000, 0b110001, 0b110010, 0b110011, 0b110100, 0b110101, 0b110110,
   0b110111, 0b111000, 0b111010, 0b111011, 0b111100, 0b111101, 0b111110, 0b111111]

/-- The `funct6` values of R70 without an immediate form (R87(d)): vsub, vminu, vmin, vmaxu, vmax, vsbc, vmsbc, vmsltu,
vmslt. -/
def noImmediateFunct6 : List Nat := [0b000010, 0b000100, 0b000101, 0b000110, 0b000111, 0b010010, 0b010011, 0b011010, 0b011011]

/-- The `funct6` values of R70 without a vector form (R87(d)): vrsub, vmsgtu, vmsgt. -/
def noVectorFunct6 : List Nat := [0b000011, 0b011110, 0b011111]

/-- The word is in one of the categories of R70. -/
def isOPIV (w : Word32) : Prop := funct3Of w = 0b000 ∨ funct3Of w = 0b011 ∨ funct3Of w = 0b100

/-- The destination's element width (R101); one bit for a mask. -/
def destEew (s : State) (i : Instr) : Nat :=
  match i.form.kind with
  | .mask => 1
  | .widen | .widenMac | .widenWide => 2 * s.sew
  | _ => s.sew

/-- Eight times the destination's `EMUL` (R101); one register for a mask. -/
def destEmul8 (s : State) (i : Instr) : Nat :=
  match i.form.kind with
  | .mask => 8
  | .widen | .widenMac | .widenWide => 2 * s.lmul8
  | _ => s.lmul8

/-- Eight times the `EMUL` of `vs2` (R101). -/
def sourceEmul8 (s : State) (i : Instr) : Nat :=
  match i.form.kind with
  | .widenWide | .narrow => 2 * s.lmul8
  | .ext k => s.lmul8 / k
  | _ => s.lmul8

end Sys2Proof.Statements

open Sys2Proof.Statements

/-- O1. Decoding the encoding of an instruction gives the instruction back. For every instruction with every operand at
every value its fields admit, well formed or not (R87(b), R87(f), R108 and R109 make some register choices fault
when executed, not when decoded), the word encode writes decodes to exactly that instruction, also when it is laid
out as bytes in memory order. -/
def Obligations.DecodeOfEncodeIsTheInstruction : Prop :=
  ∀ i : Instr, decodeWord (encode i) = .instr i ∧ decodeBytes (bytesOfWord (encode i)) = .instr i ∧
  decodeTableWord 32 (encode i).toNat = some i

/-- O2. Every word that decodes to an instruction is that instruction's encoding. For every 32-bit word: if it decodes
to an instruction, encoding that instruction gives the word, so no bit of a word is dropped and no two words decode
to one instruction. -/
def Obligations.EncodeOfDecodeIsTheWord : Prop :=
  ∀ (w : Word32) (i : Instr), decodeWord w = .instr i → encode i = w

/-- O3. A word decodes to an instruction exactly when it matches that instruction's row of the opcode table. R73: for
every word and every row of the 139-row table, if the word AND the row's mask is the row's match value, the word
decodes to an instruction with the row's mnemonic. Conversely a word that decodes to an instruction matches a row
with its mnemonic. -/
def Obligations.TableRowMatchesExactlyItsInstruction : Prop :=
  (∀ (w : Word32) (r : OpcodeRow), r ∈ opcodeTable → r.matchesWord w = true →
    ∃ i, decodeWord w = .instr i ∧ i.mnemonic = r.mnemonic) ∧
  (∀ (w : Word32) (i : Instr), decodeWord w = .instr i →
    ∃ r ∈ opcodeTable, r.mnemonic = i.mnemonic ∧ r.matchesWord w = true)

/-- O4. No two rows of the opcode table match the same word. R73: the table has 139 rows, and for every word and any two
positions of the table whose rows both match it, the positions are the same. -/
def Obligations.NoWordMatchesTwoTableRows : Prop :=
  opcodeTable.length = 139 ∧
  ∀ (w : Word32) (j k : Fin opcodeTable.length),
    opcodeTable[j].matchesWord w = true → opcodeTable[k].matchesWord w = true → j = k

/-- O5. Which words the decoder calls outside the spec. R74: a word is outside the spec exactly when its major opcode is
not 0x57, or funct3 is that of the floating-point or configuration categories, or its funct6 is in no row of the map
for its category (R70 for OPIVV, OPIVI, OPIVX; R71 for OPMVV, OPMVX). No 32-bit word is too short to decode. -/
def Obligations.WordsOutsideTheSpecAreExactlyThese : Prop :=
  ∀ w : Word32, decodeWord w ≠ .short ∧
  (decodeWord w = .outside ↔
    opcodeOf w ≠ 0x57 ∨ funct3Of w = 0b001 ∨ funct3Of w = 0b101 ∨ funct3Of w = 0b111 ∨
    ((funct3Of w = 0b000 ∨ funct3Of w = 0b011 ∨ funct3Of w = 0b100) ∧ (funct6Of w).toNat ∉ integerFunct6) ∨
    ((funct3Of w = 0b010 ∨ funct3Of w = 0b110) ∧ (funct6Of w).toNat ∉ multiplyFunct6))

/-- O6. Which words the decoder calls reserved. R87: a word is decoded as reserved exactly when it is (a) vadc or vsbc
with vm = 1, (c) the move with vs2 not 0, (d) a category its funct6 lacks (the extension funct6 under OPMVX among
them: log 11), or (e) an unused sub-opcode of the extension funct6. R87(b) and (f), vd = 0 of vadc, vsbc and vmerge,
fault when executed: MaskedInstructionsMayNotWriteOrReadV0AsData. -/
def Obligations.ReservedWordsAreExactlyThese : Prop :=
  ∀ w : Word32, decodeWord w = .reserved ↔
  opcodeOf w = 0x57 ∧
  ((isOPIV w ∧ (funct6Of w = 0b010000 ∨ (funct6Of w = 0b010010 ∧ funct3Of w ≠ 0b011)) ∧ vmOf w = true) ∨
   (isOPIV w ∧ funct6Of w = 0b010111 ∧ vmOf w = true ∧ vs2Of w ≠ 0) ∨
   (funct3Of w = 0b011 ∧ (funct6Of w).toNat ∈ noImmediateFunct6) ∨
   (funct3Of w = 0b000 ∧ (funct6Of w).toNat ∈ noVectorFunct6) ∨
   (funct3Of w = 0b010 ∧ funct6Of w = 0b111110) ∨
   (funct3Of w = 0b110 ∧ funct6Of w = 0b010010) ∨
   (funct3Of w = 0b010 ∧ funct6Of w = 0b010010 ∧ ((argOf w).toNat < 2 ∨ 7 < (argOf w).toNat)))

/-- O7. Words written out in the spec decode to the instructions they stand for. Twelve words, at least one of each
family, as R141, R143, R152, R174, R186, R193, R219, R241, R278, R301, R317 and R326 print them: each decodes to the
instruction and operands its rule prints beside it. -/
def Obligations.SpecWordsDecode : Prop :=
  decodeTableWord 32 0x022180D7 = some (.vaddVV 1 2 3 true) ∧ decodeTableWord 32 0x002FB0D7 = some (.vaddVI 1 2 31 false) ∧
  decodeTableWord 32 0xC021A257 = some (.vwadduVV 4 2 3 false) ∧ decodeTableWord 32 0x4A222257 = some (.vzextVF4 4 2 true) ∧
  decodeTableWord 32 0x402540D7 = some (.vadcVXM 1 2 10) ∧ decodeTableWord 32 0x462FB0D7 = some (.vmadcVI 1 2 31) ∧
  decodeTableWord 32 0xA621B0D7 = some (.vsraVI 1 2 3 true) ∧ decodeTableWord 32 0x6E2180D7 = some (.vmsltVV 1 2 3 true) ∧
  decodeTableWord 32 0x9A2560D7 = some (.vmulhsuVX 1 2 10 true) ∧ decodeTableWord 32 0xB621A0D7 = some (.vmaccVV 1 3 2 true) ∧
  decodeTableWord 32 0xFA256257 = some (.vwmaccusVX 4 10 2 true) ∧ decodeTableWord 32 0x5E0540D7 = some (.vmvVX 1 10)

/-- O8. A step runs the instruction whose bytes stand at pc. In every state whose pc is a multiple of four and whose
four bytes at pc decode to an instruction, step is exec of that instruction at that state, with nothing added. -/
def Obligations.StepRunsTheDecodedInstruction : Prop :=
  ∀ (s : State) (b0 b1 b2 b3 : Byte) (i : Instr), s.pcAddr % 4 = 0 →
  s.readByte s.pcAddr = some b0 → s.readByte (s.pcAddr + 1) = some b1 →
  s.readByte (s.pcAddr + 2) = some b2 → s.readByte (s.pcAddr + 3) = some b3 →
  decodeBytes [b0, b1, b2, b3] = .instr i → step s = exec i s

/-- O9. A reserved word faults and a word outside the spec is refused. If the word fetched at pc is a reserved encoding,
step is IllegalInstruction with that word; if it is outside the spec, step refuses it by name (R89, decision D20);
if there is no text at pc, step refuses with the end of the text (R19; log 6). In no case is there a next state. -/
def Obligations.StepOnReservedFaultsOnOutsideRefuses : Prop :=
  ∀ (s : State) (w : Word32),
  (s.fetch = .ok w → decodeWord w = .reserved → step s = .fault (.illegalInstruction w)) ∧
  (s.fetch = .ok w → decodeWord w = .outside → step s = .refused (.outsideTable w)) ∧
  (s.pcAddr % 4 = 0 → s.readByte s.pcAddr = none → step s = .refused .endOfText)

/-- O10. Fetch assembles the four bytes at pc little-endian. At a pc that is a multiple of four (log 7), with four bytes
of text at pc to pc+3, the word fetched has the byte at pc in bits 7:0, then pc+1 in 15:8, pc+2 in 23:16, and pc+3
in 31:24. -/
def Obligations.FetchIsLittleEndian : Prop :=
  ∀ (s : State) (b0 b1 b2 b3 : Byte), s.pcAddr % 4 = 0 →
  s.readByte s.pcAddr = some b0 → s.readByte (s.pcAddr + 1) = some b1 →
  s.readByte (s.pcAddr + 2) = some b2 → s.readByte (s.pcAddr + 3) = some b3 →
  ∃ w, s.fetch = .ok w ∧ w.extractLsb' 0 8 = b0 ∧ w.extractLsb' 8 8 = b1 ∧
    w.extractLsb' 16 8 = b2 ∧ w.extractLsb' 24 8 = b3

/-- O11. The word placed by withFetchWord is the one the next step runs. For every state with pc a multiple of four and
every instruction word, step of the state with that word placed at pc is exec of the decoded instruction there, and
nothing but the four bytes at pc was changed by placing it (how text is loaded is log 6). -/
def Obligations.PlacedWordIsTheNextInstruction : Prop :=
  ∀ (s : State) (w : Word32) (i : Instr), s.pcAddr % 4 = 0 → decodeWord w = .instr i →
  step (s.withFetchWord 32 w.toNat) = exec i (s.withFetchWord 32 w.toNat) ∧
  (∀ a, a < s.pcAddr ∨ s.pcAddr + 4 ≤ a → (s.withFetchWord 32 w.toNat).readByte a = s.readByte a) ∧
  { s.withFetchWord 32 w.toNat with mem := s.mem } = s

/-- O12. A text runs as a straight line: after k completed steps pc is base + 4k and the word there is the k-th. For
every text placed at a 4-byte-aligned base inside the address space (loading is from outside: log 6) and every state
with pc at the base: after any k steps that all completed, with k at most the length of the text, pc is base + 4k
modulo 2^XLEN, the text is unchanged, and while k is below the length the word fetched next is word k. -/
def Obligations.TextRunsAsAStraightLine : Prop :=
  ∀ (s : State) (base : Nat) (ws : List Word32) (k : Nat) (t : State),
  base % 4 = 0 → base + 4 * ws.length ≤ 2 ^ s.xbits → s.pcAddr = base → k ≤ ws.length →
  Sys2Proof.core.run k (s.loadText base ws) = .next t →
  t.pcAddr = (base + 4 * k) % 2 ^ s.xbits ∧ (∀ a, t.readByte a = (s.loadText base ws).readByte a) ∧
  (∀ h : k < ws.length, t.fetch = .ok ws[k])

/-- O13. With vill = 1 every in-scope instruction raises IllegalInstruction. In every state with vtype.vill = 1, each of
the 139 instructions with any operands answers IllegalInstruction, carrying its word; there is no next state, so no
state changes. -/
def Obligations.VillMakesEveryInstructionFault : Prop :=
  ∀ (i : Instr) (s : State), s.vtype.vill = true → exec i s = .fault (.illegalInstruction (encode i))

/-- O14. With mstatus.VS Off every instruction faults (the field is held by the model's choice, log 4). R38: when
mstatus.VS is Off every in-scope instruction raises IllegalInstruction; and one that completes leaves mstatus.VS
Dirty. R38 itself declines to hold the field (D16): holding it is log 4. -/
def Obligations.VectorUnitOffMakesEveryInstructionFault : Prop :=
  (∀ (i : Instr) (s : State), s.vs = .off → exec i s = .fault (.illegalInstruction (encode i))) ∧
  (∀ (i : Instr) (s t : State), exec i s = .next t → s.vs ≠ .off ∧ t.vs = .dirty)

/-- O15. Under VSTART_TRAP a non-zero vstart faults; without it the instruction runs and skips the prestart elements.
R104: in a configuration R41 allows, with VS on and vill 0 and vstart not 0: with VSTART_TRAP true every instruction
raises IllegalInstruction; with it false an instruction legal at this vtype completes and leaves every destination
element below vstart as it was, be it a data element or a mask bit. -/
def Obligations.NonzeroVstartTrapsWhereTheParameterSaysSo : Prop :=
  ∀ (i : Instr) (s : State), s.vs ≠ .off → s.vtype.vill = false → s.launchOk = true → s.vstart ≠ 0 →
  (s.cfg.vstartTrap = true → exec i s = .fault (.illegalInstruction (encode i))) ∧
  (s.cfg.vstartTrap = false → Legal s i = true → ∃ t, exec i s = .next t ∧
    (i.form.kind = .mask → ∀ e, e < s.vstart.toNat → t.vmask i.form.vd.toNat e = s.vmask i.form.vd.toNat e) ∧
    (i.form.kind ≠ .mask → ∀ e, e < s.vstart.toNat → e < regCount (destEmul8 s i) * s.vlen / destEew s i →
      t.velem i.form.vd.toNat (destEew s i) e = s.velem i.form.vd.toNat (destEew s i) e))

/-- O16. In a ready state an instruction completes exactly where its family's register and width constraints hold, else
it faults. For all 139 instructions: in a ready state, exec answers a next state exactly when the constraints as the
family rules spell them (Legal) hold, although the meanings check the common rules R103, R105, R106, R108, R109;
where they do not hold the answer is IllegalInstruction with the instruction's word. Operand values never matter. -/
def Obligations.InstructionsCompleteExactlyWhereLegal : Prop :=
  ∀ (i : Instr) (s : State), Ready s = true →
  ((∃ t, exec i s = .next t) ↔ Legal s i = true) ∧
  (Legal s i = false → exec i s = .fault (.illegalInstruction (encode i)))

/-- O17. An instruction that completes did so in a ready state at a legal configuration. For all 139 instructions: if
exec answers a next state then mstatus.VS was not Off (log 4), vill was 0, vtype, vl and vstart met R41 (log 8),
vstart did not trap, and the family's constraints held. -/
def Obligations.InstructionsCompleteOnlyInReadyStates : Prop :=
  ∀ (i : Instr) (s t : State), exec i s = .next t → Ready s = true ∧ Legal s i = true

/-- O18. An operand width or multiplier out of range makes the encoding reserved. R103: in a state R41 allows, SEW and
LMUL themselves are in range; in a ready state a widening or narrowing instruction raises IllegalInstruction when
2*SEW > ELEN or LMUL = 8, and an extension by k does when SEW/k < 8 or LMUL/k < 1/8. Multipliers are counted in
eighths. -/
def Obligations.WidthsAndMultipliersOutOfRangeFault : Prop :=
  (∀ s : State, s.launchOk = true → 8 ≤ s.sew ∧ s.sew ≤ s.elen ∧ 1 ≤ s.lmul8 ∧ s.lmul8 ≤ 64) ∧
  (∀ (i : Instr) (s : State), Ready s = true → i.form.kind ∈ [Kind.widen, .widenMac, .widenWide, .narrow] →
    s.elen < 2 * s.sew ∨ s.lmul8 = 64 → exec i s = .fault (.illegalInstruction (encode i))) ∧
  (∀ (i : Instr) (s : State) (k : Nat), Ready s = true → i.form.kind = .ext k →
    s.sew < 8 * k ∨ s.lmul8 < k → exec i s = .fault (.illegalInstruction (encode i)))

/-- O19. An instruction that reads v0 as a mask faults if it names v0 as a data destination or source. R108: in a ready
state an instruction that reads v0 as a mask and whose result is not a mask raises IllegalInstruction when vd = 0.
R109: one that reads v0 as a mask raises it when vs2 or a vector vs1 is v0. -/
def Obligations.MaskedInstructionsMayNotWriteOrReadV0AsData : Prop :=
  ∀ (i : Instr) (s : State), Ready s = true → i.form.readsV0 = true →
  (i.form.kind ≠ .mask → i.form.vd = 0 → exec i s = .fault (.illegalInstruction (encode i))) ∧
  (i.form.vs2 = some 0 ∨ i.form.vs1 = some 0 → exec i s = .fault (.illegalInstruction (encode i)))

/-- O20. A register number that is no multiple of its group size makes the instruction fault. R105: in a ready state,
for every instruction: a data destination whose EMUL is above 1 and does not divide vd, a vs2 whose EMUL is above 1
and does not divide it, and a vector vs1 with LMUL above 1 not dividing it, each make it raise IllegalInstruction. -/
def Obligations.MisalignedGroupsFault : Prop :=
  ∀ (i : Instr) (s : State), Ready s = true →
  (i.form.kind ≠ .mask → 8 < destEmul8 s i → i.form.vd.toNat % (destEmul8 s i / 8) ≠ 0 →
    exec i s = .fault (.illegalInstruction (encode i))) ∧
  (∀ r, i.form.vs2 = some r → 8 < sourceEmul8 s i → r.toNat % (sourceEmul8 s i / 8) ≠ 0 →
    exec i s = .fault (.illegalInstruction (encode i))) ∧
  (∀ r, i.form.vs1 = some r → 8 < s.lmul8 → r.toNat % (s.lmul8 / 8) ≠ 0 →
    exec i s = .fault (.illegalInstruction (encode i)))

/-- O21. The only fault is IllegalInstruction, and it carries the instruction word, whichever cause applies. R330, R332,
R333: whatever exec answers as a fault is IllegalInstruction with the instruction's own word (log 10), and whatever
step answers as a fault is IllegalInstruction with the word fetched at pc. -/
def Obligations.EveryFaultCarriesTheInstructionWord : Prop :=
  (∀ (i : Instr) (s : State) (f : Fault), exec i s = .fault f → f = .illegalInstruction (encode i)) ∧
  (∀ (s : State) (f : Fault), step s = .fault f → ∃ w, s.fetch = .ok w ∧ f = .illegalInstruction w)

/-- O22. In a state the spec describes no instruction is refused, and a step is refused only at the end of text or on a
word outside the spec. In every state that meets the invariant State.Wf, exec never refuses an instruction, and step
refuses only where no text stands at pc or the word there is outside the spec. In other states with VS on and vill 0
that break R41, exec refuses by name (the model's reading of R41's "refuse": log 8). -/
def Obligations.NoInstructionIsRefusedInADescribedState : Prop :=
  (∀ (i : Instr) (s : State) (r : Refusal), s.Wf → exec i s ≠ .refused r) ∧
  (∀ (s : State) (r : Refusal), s.Wf → step s = .refused r →
    (r = .endOfText ∧ s.fetch = .error .endOfText) ∨
    (∃ w, r = .outsideTable w ∧ s.fetch = .ok w ∧ decodeWord w = .outside)) ∧
  (∀ (i : Instr) (s : State), s.vs ≠ .off → s.vtype.vill = false → s.launchOk = false → exec i s = .refused .launchState)

/-- O23. Whether an instruction faults never depends on an element, scalar, mask or memory value. R121: two states that
agree on the parameters, vtype, vl, vstart and mstatus.VS, and differ in any x register, vector register, fixed-
point register, memory byte or pc, give the same kind of answer to the same instruction, and the same fault. -/
def Obligations.OutcomeNeverDependsOnOperandValues : Prop :=
  ∀ (i : Instr) (s s' : State), s.cfg = s'.cfg → s.vtype = s'.vtype → s.vl = s'.vl → s.vstart = s'.vstart → s.vs = s'.vs →
  ((∃ t, exec i s = .next t) ↔ (∃ t, exec i s' = .next t)) ∧
  (∀ f, exec i s = .fault f ↔ exec i s' = .fault f) ∧ (∀ r, exec i s = .refused r ↔ exec i s' = .refused r)

/-- O24. Every instruction that completes changes only its destination registers, vstart, pc, mstatus.VS and the draw
counter. For all 139 instructions: after a next state, no x register, not vl, not vtype, no fixed-point register, no
byte of memory and no parameter has changed; vstart is 0, pc is pc + 4 modulo 2^XLEN, mstatus.VS is Dirty (log 4)
and the draw counter is one more (log 5); every vector register outside the destination group is unchanged. -/
def Obligations.CompletionChangesOnlyTheDestination : Prop :=
  ∀ (i : Instr) (s t : State), exec i s = .next t → Frame s t ∧
  ∀ r, r < i.form.vd.toNat ∨ i.form.vd.toNat + regCount (destEmul8 s i) ≤ r → regOf t.v r = regOf s.v r

/-- O25. With vstart at or above vl no destination element is written, but the checks and the completion still happen.
R113 (decision D25): in a ready state with vstart >= vl, vl = 0 included: an instruction legal at this vtype
completes with the whole vector register file unchanged whatever the policies, vstart 0 and pc + 4; an illegal one
raises IllegalInstruction. That the completion makes mstatus.VS Dirty with an empty body too (log 4) and advances
the draw counter (log 5) is the model's choice, not R113's. -/
def Obligations.EmptyBodyWritesNoElement : Prop :=
  ∀ (i : Instr) (s : State), Ready s = true → s.vl.toNat ≤ s.vstart.toNat →
  (Legal s i = true → ∃ t, exec i s = .next t ∧ Frame s t ∧ t.v = s.v) ∧
  (Legal s i = false → exec i s = .fault (.illegalInstruction (encode i)))

/-- O26. No instruction reads or writes vxrm or vxsat. R35: for all 139 instructions, changing vxrm and vxsat before the
instruction changes nothing of its answer but those two registers, which it leaves as they were: a next state is the
same next state with the changed vxrm and vxsat, a fault or refusal is the same one. -/
def Obligations.FixedPointRegistersAreNeitherReadNorWritten : Prop :=
  ∀ (i : Instr) (s : State) (m : BitVec 2) (q : BitVec 1),
  (∀ t, exec i s = .next t → exec i { s with vxrm := m, vxsat := q } = .next { t with vxrm := m, vxsat := q }) ∧
  (∀ f, exec i s = .fault f → exec i { s with vxrm := m, vxsat := q } = .fault f) ∧
  (∀ r, exec i s = .refused r → exec i { s with vxrm := m, vxsat := q } = .refused r)

/-- O27. vadd, vsub, vrsub: the low SEW bits of the sum, difference and reversed difference. In every state that is
ready (vector unit on, vill 0, vtype, vl and vstart as R41 requires, no vstart trap) and in which the encoding is
legal at this vtype, the instruction completes: each active element of vd is vs2 + second operand (vadd), vs2 -
second operand (vsub), second operand - vs2 (vrsub), modulo 2^SEW. Prestart, inactive and tail elements follow R107
to R113; registers outside the group and everything else but vstart, pc, mstatus.VS (log 4) and the draw counter
(log 5) are unchanged. -/
def Obligations.AddSubtractReverseSubtractResults : Prop :=
  (∀ (s : State) (vd vs2 vs1 : RegNum) (vm : Bool), Ready s = true → Legal s (.vaddVV vd vs2 vs1 vm) = true →
    ∃ t, exec (.vaddVV vd vs2 vs1 vm) s = .next t ∧ Frame s t ∧ DataDest s t vd s.sew s.lmul8 (fun e => vm || s.vmask 0 e)
      (fun e => let a := s.velem vs2.toNat s.sew e; let b := s.velem vs1.toNat s.sew e; a + b)) ∧
  (∀ (s : State) (vd vs2 rs1 : RegNum) (vm : Bool), Ready s = true → Legal s (.vaddVX vd vs2 rs1 vm) = true →
    ∃ t, exec (.vaddVX vd vs2 rs1 vm) s = .next t ∧ Frame s t ∧ DataDest s t vd s.sew s.lmul8 (fun e => vm || s.vmask 0 e)
      (fun e => let a := s.velem vs2.toNat s.sew e; let b := s.scalarOperand s.sew rs1; a + b)) ∧
  (∀ (s : State) (vd vs2 : RegNum) (imm : BitVec 5) (vm : Bool), Ready s = true → Legal s (.vaddVI vd vs2 imm vm) = true →
    ∃ t, exec (.vaddVI vd vs2 imm vm) s = .next t ∧ Frame s t ∧ DataDest s t vd s.sew s.lmul8 (fun e => vm || s.vmask 0 e)
      (fun e => let a := s.velem vs2.toNat s.sew e; let b := imm.signExtend s.sew; a + b)) ∧
  (∀ (s : State) (vd vs2 vs1 : RegNum) (vm : Bool), Ready s = true → Legal s (.vsubVV vd vs2 vs1 vm) = true →
    ∃ t, exec (.vsubVV vd vs2 vs1 vm) s = .next t ∧ Frame s t ∧ DataDest s t vd s.sew s.lmul8 (fun e => vm || s.vmask 0 e)
      (fun e => let a := s.velem vs2.toNat s.sew e; let b := s.velem vs1.toNat s.sew e; a - b)) ∧
  (∀ (s : State) (vd vs2 rs1 : RegNum) (vm : Bool), Ready s = true → Legal s (.vsubVX vd vs2 rs1 vm) = true →
    ∃ t, exec (.vsubVX vd vs2 rs1 vm) s = .next t ∧ Frame s t ∧ DataDest s t vd s.sew s.lmul8 (fun e => vm || s.vmask 0 e)
      (fun e => let a := s.velem vs2.toNat s.sew e; let b := s.scalarOperand s.sew rs1; a - b)) ∧
  (∀ (s : State) (vd vs2 rs1 : RegNum) (vm : Bool), Ready s = true → Legal s (.vrsubVX vd vs2 rs1 vm) = true →
    ∃ t, exec (.vrsubVX vd vs2 rs1 vm) s = .next t ∧ Frame s t ∧ DataDest s t vd s.sew s.lmul8 (fun e => vm || s.vmask 0 e)
      (fun e => let a := s.velem vs2.toNat s.sew e; let b := s.scalarOperand s.sew rs1; b - a)) ∧
  (∀ (s : State) (vd vs2 : RegNum) (imm : BitVec 5) (vm : Bool), Ready s = true → Legal s (.vrsubVI vd vs2 imm vm) = true →
    ∃ t, exec (.vrsubVI vd vs2 imm vm) s = .next t ∧ Frame s t ∧ DataDest s t vd s.sew s.lmul8 (fun e => vm || s.vmask 0 e)
      (fun e => let a := s.velem vs2.toNat s.sew e; let b := imm.signExtend s.sew; b - a))

/-- O28. vwaddu, vwadd, vwsubu, vwsub (.vv, .vx): both SEW operands extended to 2*SEW, then added or subtracted. In
every state that is ready (vector unit on, vill 0, vtype, vl and vstart as R41 requires, no vstart trap) and in
which the encoding is legal at this vtype, the instruction completes: each active 2*SEW-bit element of vd is the sum
or difference of the vs2 element and the second operand, both zero-extended (u) or sign-extended. Prestart, inactive
and tail elements follow R107 to R113; registers outside the group and everything else but vstart, pc, mstatus.VS
(log 4) and the draw counter (log 5) are unchanged. -/
def Obligations.WideningAddSubtractResults : Prop :=
  (∀ (s : State) (vd vs2 vs1 : RegNum) (vm : Bool), Ready s = true → Legal s (.vwadduVV vd vs2 vs1 vm) = true →
    ∃ t, exec (.vwadduVV vd vs2 vs1 vm) s = .next t ∧ Frame s t ∧ DataDest s t vd (2 * s.sew) (2 * s.lmul8) (fun e => vm || s.vmask 0 e)
      (fun e => let a := s.velem vs2.toNat s.sew e; let b := s.velem vs1.toNat s.sew e; a.setWidth (2 * s.sew) + b.setWidth (2 * s.sew))) ∧
  (∀ (s : State) (vd vs2 rs1 : RegNum) (vm : Bool), Ready s = true → Legal s (.vwadduVX vd vs2 rs1 vm) = true →
    ∃ t, exec (.vwadduVX vd vs2 rs1 vm) s = .next t ∧ Frame s t ∧ DataDest s t vd (2 * s.sew) (2 * s.lmul8) (fun e => vm || s.vmask 0 e)
      (fun e => let a := s.velem vs2.toNat s.sew e; let b := s.scalarOperand s.sew rs1; a.setWidth (2 * s.sew) + b.setWidth (2 * s.sew))) ∧
  (∀ (s : State) (vd vs2 vs1 : RegNum) (vm : Bool), Ready s = true → Legal s (.vwsubuVV vd vs2 vs1 vm) = true →
    ∃ t, exec (.vwsubuVV vd vs2 vs1 vm) s = .next t ∧ Frame s t ∧ DataDest s t vd (2 * s.sew) (2 * s.lmul8) (fun e => vm || s.vmask 0 e)
      (fun e => let a := s.velem vs2.toNat s.sew e; let b := s.velem vs1.toNat s.sew e; a.setWidth (2 * s.sew) - b.setWidth (2 * s.sew))) ∧
  (∀ (s : State) (vd vs2 rs1 : RegNum) (vm : Bool), Ready s = true → Legal s (.vwsubuVX vd vs2 rs1 vm) = true →
    ∃ t, exec (.vwsubuVX vd vs2 rs1 vm) s = .next t ∧ Frame s t ∧ DataDest s t vd (2 * s.sew) (2 * s.lmul8) (fun e => vm || s.vmask 0 e)
      (fun e => let a := s.velem vs2.toNat s.sew e; let b := s.scalarOperand s.sew rs1; a.setWidth (2 * s.sew) - b.setWidth (2 * s.sew))) ∧
  (∀ (s : State) (vd vs2 vs1 : RegNum) (vm : Bool), Ready s = true → Legal s (.vwaddVV vd vs2 vs1 vm) = true →
    ∃ t, exec (.vwaddVV vd vs2 vs1 vm) s = .next t ∧ Frame s t ∧ DataDest s t vd (2 * s.sew) (2 * s.lmul8) (fun e => vm || s.vmask 0 e)
      (fun e => let a := s.velem vs2.toNat s.sew e; let b := s.velem vs1.toNat s.sew e; a.signExtend (2 * s.sew) + b.signExtend (2 * s.sew))) ∧
  (∀ (s : State) (vd vs2 rs1 : RegNum) (vm : Bool), Ready s = true → Legal s (.vwaddVX vd vs2 rs1 vm) = true →
    ∃ t, exec (.vwaddVX vd vs2 rs1 vm) s = .next t ∧ Frame s t ∧ DataDest s t vd (2 * s.sew) (2 * s.lmul8) (fun e => vm || s.vmask 0 e)
      (fun e => let a := s.velem vs2.toNat s.sew e; let b := s.scalarOperand s.sew rs1; a.signExtend (2 * s.sew) + b.signExtend (2 * s.sew))) ∧
  (∀ (s : State) (vd vs2 vs1 : RegNum) (vm : Bool), Ready s = true → Legal s (.vwsubVV vd vs2 vs1 vm) = true →
    ∃ t, exec (.vwsubVV vd vs2 vs1 vm) s = .next t ∧ Frame s t ∧ DataDest s t vd (2 * s.sew) (2 * s.lmul8) (fun e => vm || s.vmask 0 e)
      (fun e => let a := s.velem vs2.toNat s.sew e; let b := s.velem vs1.toNat s.sew e; a.signExtend (2 * s.sew) - b.signExtend (2 * s.sew))) ∧
  (∀ (s : State) (vd vs2 rs1 : RegNum) (vm : Bool), Ready s = true → Legal s (.vwsubVX vd vs2 rs1 vm) = true →
    ∃ t, exec (.vwsubVX vd vs2 rs1 vm) s = .next t ∧ Frame s t ∧ DataDest s t vd (2 * s.sew) (2 * s.lmul8) (fun e => vm || s.vmask 0 e)
      (fun e => let a := s.velem vs2.toNat s.sew e; let b := s.scalarOperand s.sew rs1; a.signExtend (2 * s.sew) - b.signExtend (2 * s.sew)))

/-- O29. vwaddu, vwadd, vwsubu, vwsub (.wv, .wx): only the second operand is extended. In every state that is ready
(vector unit on, vill 0, vtype, vl and vstart as R41 requires, no vstart trap) and in which the encoding is legal at
this vtype, the instruction completes: each active 2*SEW-bit element of vd is the 2*SEW-bit vs2 element plus or
minus the zero-extended (u) or sign-extended second operand, modulo 2^(2*SEW). Prestart, inactive and tail elements
follow R107 to R113; registers outside the group and everything else but vstart, pc, mstatus.VS (log 4) and the draw
counter (log 5) are unchanged. -/
def Obligations.WideningAddSubtractWideResults : Prop :=
  (∀ (s : State) (vd vs2 vs1 : RegNum) (vm : Bool), Ready s = true → Legal s (.vwadduWV vd vs2 vs1 vm) = true →
    ∃ t, exec (.vwadduWV vd vs2 vs1 vm) s = .next t ∧ Frame s t ∧ DataDest s t vd (2 * s.sew) (2 * s.lmul8) (fun e => vm || s.vmask 0 e)
      (fun e => let a := s.velem vs2.toNat (2 * s.sew) e; let b := s.velem vs1.toNat s.sew e; a + b.setWidth (2 * s.sew))) ∧
  (∀ (s : State) (vd vs2 rs1 : RegNum) (vm : Bool), Ready s = true → Legal s (.vwadduWX vd vs2 rs1 vm) = true →
    ∃ t, exec (.vwadduWX vd vs2 rs1 vm) s = .next t ∧ Frame s t ∧ DataDest s t vd (2 * s.sew) (2 * s.lmul8) (fun e => vm || s.vmask 0 e)
      (fun e => let a := s.velem vs2.toNat (2 * s.sew) e; let b := s.scalarOperand s.sew rs1; a + b.setWidth (2 * s.sew))) ∧
  (∀ (s : State) (vd vs2 vs1 : RegNum) (vm : Bool), Ready s = true → Legal s (.vwsubuWV vd vs2 vs1 vm) = true →
    ∃ t, exec (.vwsubuWV vd vs2 vs1 vm) s = .next t ∧ Frame s t ∧ DataDest s t vd (2 * s.sew) (2 * s.lmul8) (fun e => vm || s.vmask 0 e)
      (fun e => let a := s.velem vs2.toNat (2 * s.sew) e; let b := s.velem vs1.toNat s.sew e; a - b.setWidth (2 * s.sew))) ∧
  (∀ (s : State) (vd vs2 rs1 : RegNum) (vm : Bool), Ready s = true → Legal s (.vwsubuWX vd vs2 rs1 vm) = true →
    ∃ t, exec (.vwsubuWX vd vs2 rs1 vm) s = .next t ∧ Frame s t ∧ DataDest s t vd (2 * s.sew) (2 * s.lmul8) (fun e => vm || s.vmask 0 e)
      (fun e => let a := s.velem vs2.toNat (2 * s.sew) e; let b := s.scalarOperand s.sew rs1; a - b.setWidth (2 * s.sew))) ∧
  (∀ (s : State) (vd vs2 vs1 : RegNum) (vm : Bool), Ready s = true → Legal s (.vwaddWV vd vs2 vs1 vm) = true →
    ∃ t, exec (.vwaddWV vd vs2 vs1 vm) s = .next t ∧ Frame s t ∧ DataDest s t vd (2 * s.sew) (2 * s.lmul8) (fun e => vm || s.vmask 0 e)
      (fun e => let a := s.velem vs2.toNat (2 * s.sew) e; let b := s.velem vs1.toNat s.sew e; a + b.signExtend (2 * s.sew))) ∧
  (∀ (s : State) (vd vs2 rs1 : RegNum) (vm : Bool), Ready s = true → Legal s (.vwaddWX vd vs2 rs1 vm) = true →
    ∃ t, exec (.vwaddWX vd vs2 rs1 vm) s = .next t ∧ Frame s t ∧ DataDest s t vd (2 * s.sew) (2 * s.lmul8) (fun e => vm || s.vmask 0 e)
      (fun e => let a := s.velem vs2.toNat (2 * s.sew) e; let b := s.scalarOperand s.sew rs1; a + b.signExtend (2 * s.sew))) ∧
  (∀ (s : State) (vd vs2 vs1 : RegNum) (vm : Bool), Ready s = true → Legal s (.vwsubWV vd vs2 vs1 vm) = true →
    ∃ t, exec (.vwsubWV vd vs2 vs1 vm) s = .next t ∧ Frame s t ∧ DataDest s t vd (2 * s.sew) (2 * s.lmul8) (fun e => vm || s.vmask 0 e)
      (fun e => let a := s.velem vs2.toNat (2 * s.sew) e; let b := s.velem vs1.toNat s.sew e; a - b.signExtend (2 * s.sew))) ∧
  (∀ (s : State) (vd vs2 rs1 : RegNum) (vm : Bool), Ready s = true → Legal s (.vwsubWX vd vs2 rs1 vm) = true →
    ∃ t, exec (.vwsubWX vd vs2 rs1 vm) s = .next t ∧ Frame s t ∧ DataDest s t vd (2 * s.sew) (2 * s.lmul8) (fun e => vm || s.vmask 0 e)
      (fun e => let a := s.velem vs2.toNat (2 * s.sew) e; let b := s.scalarOperand s.sew rs1; a - b.signExtend (2 * s.sew)))

/-- O30. vzext and vsext: the SEW/k source element zero- or sign-extended to SEW. In every state that is ready (vector
unit on, vill 0, vtype, vl and vstart as R41 requires, no vstart trap) and in which the encoding is legal at this
vtype, the instruction completes: each active SEW-bit element of vd is the SEW/2, SEW/4 or SEW/8-bit element of vs2
with the same index, zero-extended or sign-extended. Prestart, inactive and tail elements follow R107 to R113;
registers outside the group and everything else but vstart, pc, mstatus.VS (log 4) and the draw counter (log 5) are
unchanged. -/
def Obligations.ExtensionResults : Prop :=
  (∀ (s : State) (vd vs2 : RegNum) (vm : Bool), Ready s = true → Legal s (.vzextVF2 vd vs2 vm) = true →
    ∃ t, exec (.vzextVF2 vd vs2 vm) s = .next t ∧ Frame s t ∧ DataDest s t vd s.sew s.lmul8 (fun e => vm || s.vmask 0 e)
      (fun e => let a := s.velem vs2.toNat (s.sew / 2) e; a.setWidth s.sew)) ∧
  (∀ (s : State) (vd vs2 : RegNum) (vm : Bool), Ready s = true → Legal s (.vsextVF2 vd vs2 vm) = true →
    ∃ t, exec (.vsextVF2 vd vs2 vm) s = .next t ∧ Frame s t ∧ DataDest s t vd s.sew s.lmul8 (fun e => vm || s.vmask 0 e)
      (fun e => let a := s.velem vs2.toNat (s.sew / 2) e; a.signExtend s.sew)) ∧
  (∀ (s : State) (vd vs2 : RegNum) (vm : Bool), Ready s = true → Legal s (.vzextVF4 vd vs2 vm) = true →
    ∃ t, exec (.vzextVF4 vd vs2 vm) s = .next t ∧ Frame s t ∧ DataDest s t vd s.sew s.lmul8 (fun e => vm || s.vmask 0 e)
      (fun e => let a := s.velem vs2.toNat (s.sew / 4) e; a.setWidth s.sew)) ∧
  (∀ (s : State) (vd vs2 : RegNum) (vm : Bool), Ready s = true → Legal s (.vsextVF4 vd vs2 vm) = true →
    ∃ t, exec (.vsextVF4 vd vs2 vm) s = .next t ∧ Frame s t ∧ DataDest s t vd s.sew s.lmul8 (fun e => vm || s.vmask 0 e)
      (fun e => let a := s.velem vs2.toNat (s.sew / 4) e; a.signExtend s.sew)) ∧
  (∀ (s : State) (vd vs2 : RegNum) (vm : Bool), Ready s = true → Legal s (.vzextVF8 vd vs2 vm) = true →
    ∃ t, exec (.vzextVF8 vd vs2 vm) s = .next t ∧ Frame s t ∧ DataDest s t vd s.sew s.lmul8 (fun e => vm || s.vmask 0 e)
      (fun e => let a := s.velem vs2.toNat (s.sew / 8) e; a.setWidth s.sew)) ∧
  (∀ (s : State) (vd vs2 : RegNum) (vm : Bool), Ready s = true → Legal s (.vsextVF8 vd vs2 vm) = true →
    ∃ t, exec (.vsextVF8 vd vs2 vm) s = .next t ∧ Frame s t ∧ DataDest s t vd s.sew s.lmul8 (fun e => vm || s.vmask 0 e)
      (fun e => let a := s.velem vs2.toNat (s.sew / 8) e; a.signExtend s.sew))

/-- O31. vadc and vsbc: sum with carry-in, difference with borrow-in, every body element written. In every state that is
ready (vector unit on, vill 0, vtype, vl and vstart as R41 requires, no vstart trap) and in which the encoding is
legal at this vtype, the instruction completes: every body element, whatever v0 holds, is vs2 + second operand + the
v0 bit (vadc) or vs2 - second operand - the v0 bit (vsbc), modulo 2^SEW. Prestart, inactive and tail elements follow
R107 to R113; registers outside the group and everything else but vstart, pc, mstatus.VS (log 4) and the draw
counter (log 5) are unchanged. -/
def Obligations.AddWithCarrySubtractWithBorrowResults : Prop :=
  (∀ (s : State) (vd vs2 vs1 : RegNum), Ready s = true → Legal s (.vadcVVM vd vs2 vs1) = true →
    ∃ t, exec (.vadcVVM vd vs2 vs1) s = .next t ∧ Frame s t ∧ DataDest s t vd s.sew s.lmul8 (fun _ => true)
      (fun e => let a := s.velem vs2.toNat s.sew e; let b := s.velem vs1.toNat s.sew e; let c := s.vmask 0 e; a + b + (BitVec.ofBool c).setWidth s.sew)) ∧
  (∀ (s : State) (vd vs2 rs1 : RegNum), Ready s = true → Legal s (.vadcVXM vd vs2 rs1) = true →
    ∃ t, exec (.vadcVXM vd vs2 rs1) s = .next t ∧ Frame s t ∧ DataDest s t vd s.sew s.lmul8 (fun _ => true)
      (fun e => let a := s.velem vs2.toNat s.sew e; let b := s.scalarOperand s.sew rs1; let c := s.vmask 0 e; a + b + (BitVec.ofBool c).setWidth s.sew)) ∧
  (∀ (s : State) (vd vs2 : RegNum) (imm : BitVec 5), Ready s = true → Legal s (.vadcVIM vd vs2 imm) = true →
    ∃ t, exec (.vadcVIM vd vs2 imm) s = .next t ∧ Frame s t ∧ DataDest s t vd s.sew s.lmul8 (fun _ => true)
      (fun e => let a := s.velem vs2.toNat s.sew e; let b := imm.signExtend s.sew; let c := s.vmask 0 e; a + b + (BitVec.ofBool c).setWidth s.sew)) ∧
  (∀ (s : State) (vd vs2 vs1 : RegNum), Ready s = true → Legal s (.vsbcVVM vd vs2 vs1) = true →
    ∃ t, exec (.vsbcVVM vd vs2 vs1) s = .next t ∧ Frame s t ∧ DataDest s t vd s.sew s.lmul8 (fun _ => true)
      (fun e => let a := s.velem vs2.toNat s.sew e; let b := s.velem vs1.toNat s.sew e; let c := s.vmask 0 e; a - b - (BitVec.ofBool c).setWidth s.sew)) ∧
  (∀ (s : State) (vd vs2 rs1 : RegNum), Ready s = true → Legal s (.vsbcVXM vd vs2 rs1) = true →
    ∃ t, exec (.vsbcVXM vd vs2 rs1) s = .next t ∧ Frame s t ∧ DataDest s t vd s.sew s.lmul8 (fun _ => true)
      (fun e => let a := s.velem vs2.toNat s.sew e; let b := s.scalarOperand s.sew rs1; let c := s.vmask 0 e; a - b - (BitVec.ofBool c).setWidth s.sew))

/-- O32. vmadc and vmsbc: the carry out of bit SEW-1 and the borrow, with and without carry-in. In every state that is
ready (vector unit on, vill 0, vtype, vl and vstart as R41 requires, no vstart trap) and in which the encoding is
legal at this vtype, the instruction completes: every body bit of the mask register vd is 1 exactly when the
unsigned sum with carry-in is at least 2^SEW (vmadc), or the unsigned vs2 element is below the second operand plus
borrow-in (vmsbc); the forms without v0 take 0 in. Tail bits are agnostic whatever vta (R111). Prestart, inactive
and tail elements follow R107 to R113; registers outside the group and everything else but vstart, pc, mstatus.VS
(log 4) and the draw counter (log 5) are unchanged. -/
def Obligations.CarryOutBorrowOutResults : Prop :=
  (∀ (s : State) (vd vs2 vs1 : RegNum), Ready s = true → Legal s (.vmadcVVM vd vs2 vs1) = true →
    ∃ t, exec (.vmadcVVM vd vs2 vs1) s = .next t ∧ Frame s t ∧ MaskDest s t vd (fun _ => true)
      (fun e => let a := s.velem vs2.toNat s.sew e; let b := s.velem vs1.toNat s.sew e; let c := s.vmask 0 e; decide (2 ^ s.sew ≤ a.toNat + b.toNat + c.toNat))) ∧
  (∀ (s : State) (vd vs2 rs1 : RegNum), Ready s = true → Legal s (.vmadcVXM vd vs2 rs1) = true →
    ∃ t, exec (.vmadcVXM vd vs2 rs1) s = .next t ∧ Frame s t ∧ MaskDest s t vd (fun _ => true)
      (fun e => let a := s.velem vs2.toNat s.sew e; let b := s.scalarOperand s.sew rs1; let c := s.vmask 0 e; decide (2 ^ s.sew ≤ a.toNat + b.toNat + c.toNat))) ∧
  (∀ (s : State) (vd vs2 : RegNum) (imm : BitVec 5), Ready s = true → Legal s (.vmadcVIM vd vs2 imm) = true →
    ∃ t, exec (.vmadcVIM vd vs2 imm) s = .next t ∧ Frame s t ∧ MaskDest s t vd (fun _ => true)
      (fun e => let a := s.velem vs2.toNat s.sew e; let b := imm.signExtend s.sew; let c := s.vmask 0 e; decide (2 ^ s.sew ≤ a.toNat + b.toNat + c.toNat))) ∧
  (∀ (s : State) (vd vs2 vs1 : RegNum), Ready s = true → Legal s (.vmadcVV vd vs2 vs1) = true →
    ∃ t, exec (.vmadcVV vd vs2 vs1) s = .next t ∧ Frame s t ∧ MaskDest s t vd (fun _ => true)
      (fun e => let a := s.velem vs2.toNat s.sew e; let b := s.velem vs1.toNat s.sew e; let c := false; decide (2 ^ s.sew ≤ a.toNat + b.toNat + c.toNat))) ∧
  (∀ (s : State) (vd vs2 rs1 : RegNum), Ready s = true → Legal s (.vmadcVX vd vs2 rs1) = true →
    ∃ t, exec (.vmadcVX vd vs2 rs1) s = .next t ∧ Frame s t ∧ MaskDest s t vd (fun _ => true)
      (fun e => let a := s.velem vs2.toNat s.sew e; let b := s.scalarOperand s.sew rs1; let c := false; decide (2 ^ s.sew ≤ a.toNat + b.toNat + c.toNat))) ∧
  (∀ (s : State) (vd vs2 : RegNum) (imm : BitVec 5), Ready s = true → Legal s (.vmadcVI vd vs2 imm) = true →
    ∃ t, exec (.vmadcVI vd vs2 imm) s = .next t ∧ Frame s t ∧ MaskDest s t vd (fun _ => true)
      (fun e => let a := s.velem vs2.toNat s.sew e; let b := imm.signExtend s.sew; let c := false; decide (2 ^ s.sew ≤ a.toNat + b.toNat + c.toNat))) ∧
  (∀ (s : State) (vd vs2 vs1 : RegNum), Ready s = true → Legal s (.vmsbcVVM vd vs2 vs1) = true →
    ∃ t, exec (.vmsbcVVM vd vs2 vs1) s = .next t ∧ Frame s t ∧ MaskDest s t vd (fun _ => true)
      (fun e => let a := s.velem vs2.toNat s.sew e; let b := s.velem vs1.toNat s.sew e; let c := s.vmask 0 e; decide (a.toNat < b.toNat + c.toNat))) ∧
  (∀ (s : State) (vd vs2 rs1 : RegNum), Ready s = true → Legal s (.vmsbcVXM vd vs2 rs1) = true →
    ∃ t, exec (.vmsbcVXM vd vs2 rs1) s = .next t ∧ Frame s t ∧ MaskDest s t vd (fun _ => true)
      (fun e => let a := s.velem vs2.toNat s.sew e; let b := s.scalarOperand s.sew rs1; let c := s.vmask 0 e; decide (a.toNat < b.toNat + c.toNat))) ∧
  (∀ (s : State) (vd vs2 vs1 : RegNum), Ready s = true → Legal s (.vmsbcVV vd vs2 vs1) = true →
    ∃ t, exec (.vmsbcVV vd vs2 vs1) s = .next t ∧ Frame s t ∧ MaskDest s t vd (fun _ => true)
      (fun e => let a := s.velem vs2.toNat s.sew e; let b := s.velem vs1.toNat s.sew e; let c := false; decide (a.toNat < b.toNat + c.toNat))) ∧
  (∀ (s : State) (vd vs2 rs1 : RegNum), Ready s = true → Legal s (.vmsbcVX vd vs2 rs1) = true →
    ∃ t, exec (.vmsbcVX vd vs2 rs1) s = .next t ∧ Frame s t ∧ MaskDest s t vd (fun _ => true)
      (fun e => let a := s.velem vs2.toNat s.sew e; let b := s.scalarOperand s.sew rs1; let c := false; decide (a.toNat < b.toNat + c.toNat)))

/-- O33. vand, vor, vxor: bitwise operations of the two SEW-bit operands. In every state that is ready (vector unit on,
vill 0, vtype, vl and vstart as R41 requires, no vstart trap) and in which the encoding is legal at this vtype, the
instruction completes: each active element of vd is the AND, OR or exclusive-OR of the vs2 element and the second
operand; an immediate is sign-extended. Prestart, inactive and tail elements follow R107 to R113; registers outside
the group and everything else but vstart, pc, mstatus.VS (log 4) and the draw counter (log 5) are unchanged. -/
def Obligations.BitwiseLogicalResults : Prop :=
  (∀ (s : State) (vd vs2 vs1 : RegNum) (vm : Bool), Ready s = true → Legal s (.vandVV vd vs2 vs1 vm) = true →
    ∃ t, exec (.vandVV vd vs2 vs1 vm) s = .next t ∧ Frame s t ∧ DataDest s t vd s.sew s.lmul8 (fun e => vm || s.vmask 0 e)
      (fun e => let a := s.velem vs2.toNat s.sew e; let b := s.velem vs1.toNat s.sew e; a &&& b)) ∧
  (∀ (s : State) (vd vs2 rs1 : RegNum) (vm : Bool), Ready s = true → Legal s (.vandVX vd vs2 rs1 vm) = true →
    ∃ t, exec (.vandVX vd vs2 rs1 vm) s = .next t ∧ Frame s t ∧ DataDest s t vd s.sew s.lmul8 (fun e => vm || s.vmask 0 e)
      (fun e => let a := s.velem vs2.toNat s.sew e; let b := s.scalarOperand s.sew rs1; a &&& b)) ∧
  (∀ (s : State) (vd vs2 : RegNum) (imm : BitVec 5) (vm : Bool), Ready s = true → Legal s (.vandVI vd vs2 imm vm) = true →
    ∃ t, exec (.vandVI vd vs2 imm vm) s = .next t ∧ Frame s t ∧ DataDest s t vd s.sew s.lmul8 (fun e => vm || s.vmask 0 e)
      (fun e => let a := s.velem vs2.toNat s.sew e; let b := imm.signExtend s.sew; a &&& b)) ∧
  (∀ (s : State) (vd vs2 vs1 : RegNum) (vm : Bool), Ready s = true → Legal s (.vorVV vd vs2 vs1 vm) = true →
    ∃ t, exec (.vorVV vd vs2 vs1 vm) s = .next t ∧ Frame s t ∧ DataDest s t vd s.sew s.lmul8 (fun e => vm || s.vmask 0 e)
      (fun e => let a := s.velem vs2.toNat s.sew e; let b := s.velem vs1.toNat s.sew e; a ||| b)) ∧
  (∀ (s : State) (vd vs2 rs1 : RegNum) (vm : Bool), Ready s = true → Legal s (.vorVX vd vs2 rs1 vm) = true →
    ∃ t, exec (.vorVX vd vs2 rs1 vm) s = .next t ∧ Frame s t ∧ DataDest s t vd s.sew s.lmul8 (fun e => vm || s.vmask 0 e)
      (fun e => let a := s.velem vs2.toNat s.sew e; let b := s.scalarOperand s.sew rs1; a ||| b)) ∧
  (∀ (s : State) (vd vs2 : RegNum) (imm : BitVec 5) (vm : Bool), Ready s = true → Legal s (.vorVI vd vs2 imm vm) = true →
    ∃ t, exec (.vorVI vd vs2 imm vm) s = .next t ∧ Frame s t ∧ DataDest s t vd s.sew s.lmul8 (fun e => vm || s.vmask 0 e)
      (fun e => let a := s.velem vs2.toNat s.sew e; let b := imm.signExtend s.sew; a ||| b)) ∧
  (∀ (s : State) (vd vs2 vs1 : RegNum) (vm : Bool), Ready s = true → Legal s (.vxorVV vd vs2 vs1 vm) = true →
    ∃ t, exec (.vxorVV vd vs2 vs1 vm) s = .next t ∧ Frame s t ∧ DataDest s t vd s.sew s.lmul8 (fun e => vm || s.vmask 0 e)
      (fun e => let a := s.velem vs2.toNat s.sew e; let b := s.velem vs1.toNat s.sew e; a ^^^ b)) ∧
  (∀ (s : State) (vd vs2 rs1 : RegNum) (vm : Bool), Ready s = true → Legal s (.vxorVX vd vs2 rs1 vm) = true →
    ∃ t, exec (.vxorVX vd vs2 rs1 vm) s = .next t ∧ Frame s t ∧ DataDest s t vd s.sew s.lmul8 (fun e => vm || s.vmask 0 e)
      (fun e => let a := s.velem vs2.toNat s.sew e; let b := s.scalarOperand s.sew rs1; a ^^^ b)) ∧
  (∀ (s : State) (vd vs2 : RegNum) (imm : BitVec 5) (vm : Bool), Ready s = true → Legal s (.vxorVI vd vs2 imm vm) = true →
    ∃ t, exec (.vxorVI vd vs2 imm vm) s = .next t ∧ Frame s t ∧ DataDest s t vd s.sew s.lmul8 (fun e => vm || s.vmask 0 e)
      (fun e => let a := s.velem vs2.toNat s.sew e; let b := imm.signExtend s.sew; a ^^^ b))

/-- O34. vsll, vsrl, vsra: shift by the amount modulo SEW; immediates are zero-extended. In every state that is ready
(vector unit on, vill 0, vtype, vl and vstart as R41 requires, no vstart trap) and in which the encoding is legal at
this vtype, the instruction completes: each active element of vd is the vs2 element shifted left, right with zeros
or right with copies of its sign bit, by the second operand modulo SEW; a 5-bit immediate amount is unsigned
(decision D14). Prestart, inactive and tail elements follow R107 to R113; registers outside the group and everything
else but vstart, pc, mstatus.VS (log 4) and the draw counter (log 5) are unchanged. -/
def Obligations.ShiftResults : Prop :=
  (∀ (s : State) (vd vs2 vs1 : RegNum) (vm : Bool), Ready s = true → Legal s (.vsllVV vd vs2 vs1 vm) = true →
    ∃ t, exec (.vsllVV vd vs2 vs1 vm) s = .next t ∧ Frame s t ∧ DataDest s t vd s.sew s.lmul8 (fun e => vm || s.vmask 0 e)
      (fun e => let a := s.velem vs2.toNat s.sew e; let b := s.velem vs1.toNat s.sew e; a <<< (b.toNat % s.sew))) ∧
  (∀ (s : State) (vd vs2 rs1 : RegNum) (vm : Bool), Ready s = true → Legal s (.vsllVX vd vs2 rs1 vm) = true →
    ∃ t, exec (.vsllVX vd vs2 rs1 vm) s = .next t ∧ Frame s t ∧ DataDest s t vd s.sew s.lmul8 (fun e => vm || s.vmask 0 e)
      (fun e => let a := s.velem vs2.toNat s.sew e; let b := s.scalarOperand s.sew rs1; a <<< (b.toNat % s.sew))) ∧
  (∀ (s : State) (vd vs2 : RegNum) (uimm : BitVec 5) (vm : Bool), Ready s = true → Legal s (.vsllVI vd vs2 uimm vm) = true →
    ∃ t, exec (.vsllVI vd vs2 uimm vm) s = .next t ∧ Frame s t ∧ DataDest s t vd s.sew s.lmul8 (fun e => vm || s.vmask 0 e)
      (fun e => let a := s.velem vs2.toNat s.sew e; a <<< (uimm.toNat % s.sew))) ∧
  (∀ (s : State) (vd vs2 vs1 : RegNum) (vm : Bool), Ready s = true → Legal s (.vsrlVV vd vs2 vs1 vm) = true →
    ∃ t, exec (.vsrlVV vd vs2 vs1 vm) s = .next t ∧ Frame s t ∧ DataDest s t vd s.sew s.lmul8 (fun e => vm || s.vmask 0 e)
      (fun e => let a := s.velem vs2.toNat s.sew e; let b := s.velem vs1.toNat s.sew e; a >>> (b.toNat % s.sew))) ∧
  (∀ (s : State) (vd vs2 rs1 : RegNum) (vm : Bool), Ready s = true → Legal s (.vsrlVX vd vs2 rs1 vm) = true →
    ∃ t, exec (.vsrlVX vd vs2 rs1 vm) s = .next t ∧ Frame s t ∧ DataDest s t vd s.sew s.lmul8 (fun e => vm || s.vmask 0 e)
      (fun e => let a := s.velem vs2.toNat s.sew e; let b := s.scalarOperand s.sew rs1; a >>> (b.toNat % s.sew))) ∧
  (∀ (s : State) (vd vs2 : RegNum) (uimm : BitVec 5) (vm : Bool), Ready s = true → Legal s (.vsrlVI vd vs2 uimm vm) = true →
    ∃ t, exec (.vsrlVI vd vs2 uimm vm) s = .next t ∧ Frame s t ∧ DataDest s t vd s.sew s.lmul8 (fun e => vm || s.vmask 0 e)
      (fun e => let a := s.velem vs2.toNat s.sew e; a >>> (uimm.toNat % s.sew))) ∧
  (∀ (s : State) (vd vs2 vs1 : RegNum) (vm : Bool), Ready s = true → Legal s (.vsraVV vd vs2 vs1 vm) = true →
    ∃ t, exec (.vsraVV vd vs2 vs1 vm) s = .next t ∧ Frame s t ∧ DataDest s t vd s.sew s.lmul8 (fun e => vm || s.vmask 0 e)
      (fun e => let a := s.velem vs2.toNat s.sew e; let b := s.velem vs1.toNat s.sew e; a.sshiftRight (b.toNat % s.sew))) ∧
  (∀ (s : State) (vd vs2 rs1 : RegNum) (vm : Bool), Ready s = true → Legal s (.vsraVX vd vs2 rs1 vm) = true →
    ∃ t, exec (.vsraVX vd vs2 rs1 vm) s = .next t ∧ Frame s t ∧ DataDest s t vd s.sew s.lmul8 (fun e => vm || s.vmask 0 e)
      (fun e => let a := s.velem vs2.toNat s.sew e; let b := s.scalarOperand s.sew rs1; a.sshiftRight (b.toNat % s.sew))) ∧
  (∀ (s : State) (vd vs2 : RegNum) (uimm : BitVec 5) (vm : Bool), Ready s = true → Legal s (.vsraVI vd vs2 uimm vm) = true →
    ∃ t, exec (.vsraVI vd vs2 uimm vm) s = .next t ∧ Frame s t ∧ DataDest s t vd s.sew s.lmul8 (fun e => vm || s.vmask 0 e)
      (fun e => let a := s.velem vs2.toNat s.sew e; a.sshiftRight (uimm.toNat % s.sew)))

/-- O35. vnsrl, vnsra: the low SEW bits of the 2*SEW-bit element shifted right by the amount modulo 2*SEW. In every
state that is ready (vector unit on, vill 0, vtype, vl and vstart as R41 requires, no vstart trap) and in which the
encoding is legal at this vtype, the instruction completes: each active SEW-bit element of vd is the low half of the
2*SEW-bit vs2 element shifted right, with zeros or sign copies, by the second operand modulo 2*SEW. Prestart,
inactive and tail elements follow R107 to R113; registers outside the group and everything else but vstart, pc,
mstatus.VS (log 4) and the draw counter (log 5) are unchanged. -/
def Obligations.NarrowingShiftResults : Prop :=
  (∀ (s : State) (vd vs2 vs1 : RegNum) (vm : Bool), Ready s = true → Legal s (.vnsrlWV vd vs2 vs1 vm) = true →
    ∃ t, exec (.vnsrlWV vd vs2 vs1 vm) s = .next t ∧ Frame s t ∧ DataDest s t vd s.sew s.lmul8 (fun e => vm || s.vmask 0 e)
      (fun e => let a := s.velem vs2.toNat (2 * s.sew) e; let b := s.velem vs1.toNat s.sew e; (a >>> (b.toNat % (2 * s.sew))).setWidth s.sew)) ∧
  (∀ (s : State) (vd vs2 rs1 : RegNum) (vm : Bool), Ready s = true → Legal s (.vnsrlWX vd vs2 rs1 vm) = true →
    ∃ t, exec (.vnsrlWX vd vs2 rs1 vm) s = .next t ∧ Frame s t ∧ DataDest s t vd s.sew s.lmul8 (fun e => vm || s.vmask 0 e)
      (fun e => let a := s.velem vs2.toNat (2 * s.sew) e; let b := s.scalarOperand s.sew rs1; (a >>> (b.toNat % (2 * s.sew))).setWidth s.sew)) ∧
  (∀ (s : State) (vd vs2 : RegNum) (uimm : BitVec 5) (vm : Bool), Ready s = true → Legal s (.vnsrlWI vd vs2 uimm vm) = true →
    ∃ t, exec (.vnsrlWI vd vs2 uimm vm) s = .next t ∧ Frame s t ∧ DataDest s t vd s.sew s.lmul8 (fun e => vm || s.vmask 0 e)
      (fun e => let a := s.velem vs2.toNat (2 * s.sew) e; (a >>> (uimm.toNat % (2 * s.sew))).setWidth s.sew)) ∧
  (∀ (s : State) (vd vs2 vs1 : RegNum) (vm : Bool), Ready s = true → Legal s (.vnsraWV vd vs2 vs1 vm) = true →
    ∃ t, exec (.vnsraWV vd vs2 vs1 vm) s = .next t ∧ Frame s t ∧ DataDest s t vd s.sew s.lmul8 (fun e => vm || s.vmask 0 e)
      (fun e => let a := s.velem vs2.toNat (2 * s.sew) e; let b := s.velem vs1.toNat s.sew e; (a.sshiftRight (b.toNat % (2 * s.sew))).setWidth s.sew)) ∧
  (∀ (s : State) (vd vs2 rs1 : RegNum) (vm : Bool), Ready s = true → Legal s (.vnsraWX vd vs2 rs1 vm) = true →
    ∃ t, exec (.vnsraWX vd vs2 rs1 vm) s = .next t ∧ Frame s t ∧ DataDest s t vd s.sew s.lmul8 (fun e => vm || s.vmask 0 e)
      (fun e => let a := s.velem vs2.toNat (2 * s.sew) e; let b := s.scalarOperand s.sew rs1; (a.sshiftRight (b.toNat % (2 * s.sew))).setWidth s.sew)) ∧
  (∀ (s : State) (vd vs2 : RegNum) (uimm : BitVec 5) (vm : Bool), Ready s = true → Legal s (.vnsraWI vd vs2 uimm vm) = true →
    ∃ t, exec (.vnsraWI vd vs2 uimm vm) s = .next t ∧ Frame s t ∧ DataDest s t vd s.sew s.lmul8 (fun e => vm || s.vmask 0 e)
      (fun e => let a := s.velem vs2.toNat (2 * s.sew) e; (a.sshiftRight (uimm.toNat % (2 * s.sew))).setWidth s.sew))

/-- O36. vmseq, vmsne: the mask bit is 1 exactly when the operands are equal, or differ. In every state that is ready
(vector unit on, vill 0, vtype, vl and vstart as R41 requires, no vstart trap) and in which the encoding is legal at
this vtype, the instruction completes: each active bit of the mask register vd is 1 exactly when the vs2 element
equals (vmseq) or differs from (vmsne) the second operand, as bit patterns. Prestart, inactive and tail elements
follow R107 to R113; registers outside the group and everything else but vstart, pc, mstatus.VS (log 4) and the draw
counter (log 5) are unchanged. -/
def Obligations.EqualityComparisonResults : Prop :=
  (∀ (s : State) (vd vs2 vs1 : RegNum) (vm : Bool), Ready s = true → Legal s (.vmseqVV vd vs2 vs1 vm) = true →
    ∃ t, exec (.vmseqVV vd vs2 vs1 vm) s = .next t ∧ Frame s t ∧ MaskDest s t vd (fun e => vm || s.vmask 0 e)
      (fun e => let a := s.velem vs2.toNat s.sew e; let b := s.velem vs1.toNat s.sew e; a == b)) ∧
  (∀ (s : State) (vd vs2 rs1 : RegNum) (vm : Bool), Ready s = true → Legal s (.vmseqVX vd vs2 rs1 vm) = true →
    ∃ t, exec (.vmseqVX vd vs2 rs1 vm) s = .next t ∧ Frame s t ∧ MaskDest s t vd (fun e => vm || s.vmask 0 e)
      (fun e => let a := s.velem vs2.toNat s.sew e; let b := s.scalarOperand s.sew rs1; a == b)) ∧
  (∀ (s : State) (vd vs2 : RegNum) (imm : BitVec 5) (vm : Bool), Ready s = true → Legal s (.vmseqVI vd vs2 imm vm) = true →
    ∃ t, exec (.vmseqVI vd vs2 imm vm) s = .next t ∧ Frame s t ∧ MaskDest s t vd (fun e => vm || s.vmask 0 e)
      (fun e => let a := s.velem vs2.toNat s.sew e; let b := imm.signExtend s.sew; a == b)) ∧
  (∀ (s : State) (vd vs2 vs1 : RegNum) (vm : Bool), Ready s = true → Legal s (.vmsneVV vd vs2 vs1 vm) = true →
    ∃ t, exec (.vmsneVV vd vs2 vs1 vm) s = .next t ∧ Frame s t ∧ MaskDest s t vd (fun e => vm || s.vmask 0 e)
      (fun e => let a := s.velem vs2.toNat s.sew e; let b := s.velem vs1.toNat s.sew e; a != b)) ∧
  (∀ (s : State) (vd vs2 rs1 : RegNum) (vm : Bool), Ready s = true → Legal s (.vmsneVX vd vs2 rs1 vm) = true →
    ∃ t, exec (.vmsneVX vd vs2 rs1 vm) s = .next t ∧ Frame s t ∧ MaskDest s t vd (fun e => vm || s.vmask 0 e)
      (fun e => let a := s.velem vs2.toNat s.sew e; let b := s.scalarOperand s.sew rs1; a != b)) ∧
  (∀ (s : State) (vd vs2 : RegNum) (imm : BitVec 5) (vm : Bool), Ready s = true → Legal s (.vmsneVI vd vs2 imm vm) = true →
    ∃ t, exec (.vmsneVI vd vs2 imm vm) s = .next t ∧ Frame s t ∧ MaskDest s t vd (fun e => vm || s.vmask 0 e)
      (fun e => let a := s.velem vs2.toNat s.sew e; let b := imm.signExtend s.sew; a != b))

/-- O37. vmsltu, vmsleu, vmsgtu: unsigned comparison with the vs2 element on the left. In every state that is ready
(vector unit on, vill 0, vtype, vl and vstart as R41 requires, no vstart trap) and in which the encoding is legal at
this vtype, the instruction completes: each active bit of vd is 1 exactly when the vs2 element is below, not above,
or above the second operand as unsigned numbers; an immediate is sign-extended first. Prestart, inactive and tail
elements follow R107 to R113; registers outside the group and everything else but vstart, pc, mstatus.VS (log 4) and
the draw counter (log 5) are unchanged. -/
def Obligations.UnsignedComparisonResults : Prop :=
  (∀ (s : State) (vd vs2 vs1 : RegNum) (vm : Bool), Ready s = true → Legal s (.vmsltuVV vd vs2 vs1 vm) = true →
    ∃ t, exec (.vmsltuVV vd vs2 vs1 vm) s = .next t ∧ Frame s t ∧ MaskDest s t vd (fun e => vm || s.vmask 0 e)
      (fun e => let a := s.velem vs2.toNat s.sew e; let b := s.velem vs1.toNat s.sew e; a.ult b)) ∧
  (∀ (s : State) (vd vs2 rs1 : RegNum) (vm : Bool), Ready s = true → Legal s (.vmsltuVX vd vs2 rs1 vm) = true →
    ∃ t, exec (.vmsltuVX vd vs2 rs1 vm) s = .next t ∧ Frame s t ∧ MaskDest s t vd (fun e => vm || s.vmask 0 e)
      (fun e => let a := s.velem vs2.toNat s.sew e; let b := s.scalarOperand s.sew rs1; a.ult b)) ∧
  (∀ (s : State) (vd vs2 vs1 : RegNum) (vm : Bool), Ready s = true → Legal s (.vmsleuVV vd vs2 vs1 vm) = true →
    ∃ t, exec (.vmsleuVV vd vs2 vs1 vm) s = .next t ∧ Frame s t ∧ MaskDest s t vd (fun e => vm || s.vmask 0 e)
      (fun e => let a := s.velem vs2.toNat s.sew e; let b := s.velem vs1.toNat s.sew e; a.ule b)) ∧
  (∀ (s : State) (vd vs2 rs1 : RegNum) (vm : Bool), Ready s = true → Legal s (.vmsleuVX vd vs2 rs1 vm) = true →
    ∃ t, exec (.vmsleuVX vd vs2 rs1 vm) s = .next t ∧ Frame s t ∧ MaskDest s t vd (fun e => vm || s.vmask 0 e)
      (fun e => let a := s.velem vs2.toNat s.sew e; let b := s.scalarOperand s.sew rs1; a.ule b)) ∧
  (∀ (s : State) (vd vs2 : RegNum) (imm : BitVec 5) (vm : Bool), Ready s = true → Legal s (.vmsleuVI vd vs2 imm vm) = true →
    ∃ t, exec (.vmsleuVI vd vs2 imm vm) s = .next t ∧ Frame s t ∧ MaskDest s t vd (fun e => vm || s.vmask 0 e)
      (fun e => let a := s.velem vs2.toNat s.sew e; let b := imm.signExtend s.sew; a.ule b)) ∧
  (∀ (s : State) (vd vs2 rs1 : RegNum) (vm : Bool), Ready s = true → Legal s (.vmsgtuVX vd vs2 rs1 vm) = true →
    ∃ t, exec (.vmsgtuVX vd vs2 rs1 vm) s = .next t ∧ Frame s t ∧ MaskDest s t vd (fun e => vm || s.vmask 0 e)
      (fun e => let a := s.velem vs2.toNat s.sew e; let b := s.scalarOperand s.sew rs1; b.ult a)) ∧
  (∀ (s : State) (vd vs2 : RegNum) (imm : BitVec 5) (vm : Bool), Ready s = true → Legal s (.vmsgtuVI vd vs2 imm vm) = true →
    ∃ t, exec (.vmsgtuVI vd vs2 imm vm) s = .next t ∧ Frame s t ∧ MaskDest s t vd (fun e => vm || s.vmask 0 e)
      (fun e => let a := s.velem vs2.toNat s.sew e; let b := imm.signExtend s.sew; b.ult a))

/-- O38. vmslt, vmsle, vmsgt: signed comparison with the vs2 element on the left. In every state that is ready (vector
unit on, vill 0, vtype, vl and vstart as R41 requires, no vstart trap) and in which the encoding is legal at this
vtype, the instruction completes: each active bit of vd is 1 exactly when the vs2 element is below, not above, or
above the second operand in two's complement. Prestart, inactive and tail elements follow R107 to R113; registers
outside the group and everything else but vstart, pc, mstatus.VS (log 4) and the draw counter (log 5) are unchanged. -/
def Obligations.SignedComparisonResults : Prop :=
  (∀ (s : State) (vd vs2 vs1 : RegNum) (vm : Bool), Ready s = true → Legal s (.vmsltVV vd vs2 vs1 vm) = true →
    ∃ t, exec (.vmsltVV vd vs2 vs1 vm) s = .next t ∧ Frame s t ∧ MaskDest s t vd (fun e => vm || s.vmask 0 e)
      (fun e => let a := s.velem vs2.toNat s.sew e; let b := s.velem vs1.toNat s.sew e; a.slt b)) ∧
  (∀ (s : State) (vd vs2 rs1 : RegNum) (vm : Bool), Ready s = true → Legal s (.vmsltVX vd vs2 rs1 vm) = true →
    ∃ t, exec (.vmsltVX vd vs2 rs1 vm) s = .next t ∧ Frame s t ∧ MaskDest s t vd (fun e => vm || s.vmask 0 e)
      (fun e => let a := s.velem vs2.toNat s.sew e; let b := s.scalarOperand s.sew rs1; a.slt b)) ∧
  (∀ (s : State) (vd vs2 vs1 : RegNum) (vm : Bool), Ready s = true → Legal s (.vmsleVV vd vs2 vs1 vm) = true →
    ∃ t, exec (.vmsleVV vd vs2 vs1 vm) s = .next t ∧ Frame s t ∧ MaskDest s t vd (fun e => vm || s.vmask 0 e)
      (fun e => let a := s.velem vs2.toNat s.sew e; let b := s.velem vs1.toNat s.sew e; a.sle b)) ∧
  (∀ (s : State) (vd vs2 rs1 : RegNum) (vm : Bool), Ready s = true → Legal s (.vmsleVX vd vs2 rs1 vm) = true →
    ∃ t, exec (.vmsleVX vd vs2 rs1 vm) s = .next t ∧ Frame s t ∧ MaskDest s t vd (fun e => vm || s.vmask 0 e)
      (fun e => let a := s.velem vs2.toNat s.sew e; let b := s.scalarOperand s.sew rs1; a.sle b)) ∧
  (∀ (s : State) (vd vs2 : RegNum) (imm : BitVec 5) (vm : Bool), Ready s = true → Legal s (.vmsleVI vd vs2 imm vm) = true →
    ∃ t, exec (.vmsleVI vd vs2 imm vm) s = .next t ∧ Frame s t ∧ MaskDest s t vd (fun e => vm || s.vmask 0 e)
      (fun e => let a := s.velem vs2.toNat s.sew e; let b := imm.signExtend s.sew; a.sle b)) ∧
  (∀ (s : State) (vd vs2 rs1 : RegNum) (vm : Bool), Ready s = true → Legal s (.vmsgtVX vd vs2 rs1 vm) = true →
    ∃ t, exec (.vmsgtVX vd vs2 rs1 vm) s = .next t ∧ Frame s t ∧ MaskDest s t vd (fun e => vm || s.vmask 0 e)
      (fun e => let a := s.velem vs2.toNat s.sew e; let b := s.scalarOperand s.sew rs1; b.slt a)) ∧
  (∀ (s : State) (vd vs2 : RegNum) (imm : BitVec 5) (vm : Bool), Ready s = true → Legal s (.vmsgtVI vd vs2 imm vm) = true →
    ∃ t, exec (.vmsgtVI vd vs2 imm vm) s = .next t ∧ Frame s t ∧ MaskDest s t vd (fun e => vm || s.vmask 0 e)
      (fun e => let a := s.velem vs2.toNat s.sew e; let b := imm.signExtend s.sew; b.slt a))

/-- O39. vminu, vmin, vmaxu, vmax: the smaller or larger operand, unsigned or signed. In every state that is ready
(vector unit on, vill 0, vtype, vl and vstart as R41 requires, no vstart trap) and in which the encoding is legal at
this vtype, the instruction completes: each active element of vd is whichever of the vs2 element and the second
operand is smaller (vminu, vmin) or larger (vmaxu, vmax) in the unsigned or signed reading. Prestart, inactive and
tail elements follow R107 to R113; registers outside the group and everything else but vstart, pc, mstatus.VS (log
4) and the draw counter (log 5) are unchanged. -/
def Obligations.MinimumMaximumResults : Prop :=
  (∀ (s : State) (vd vs2 vs1 : RegNum) (vm : Bool), Ready s = true → Legal s (.vminuVV vd vs2 vs1 vm) = true →
    ∃ t, exec (.vminuVV vd vs2 vs1 vm) s = .next t ∧ Frame s t ∧ DataDest s t vd s.sew s.lmul8 (fun e => vm || s.vmask 0 e)
      (fun e => let a := s.velem vs2.toNat s.sew e; let b := s.velem vs1.toNat s.sew e; if a.ult b then a else b)) ∧
  (∀ (s : State) (vd vs2 rs1 : RegNum) (vm : Bool), Ready s = true → Legal s (.vminuVX vd vs2 rs1 vm) = true →
    ∃ t, exec (.vminuVX vd vs2 rs1 vm) s = .next t ∧ Frame s t ∧ DataDest s t vd s.sew s.lmul8 (fun e => vm || s.vmask 0 e)
      (fun e => let a := s.velem vs2.toNat s.sew e; let b := s.scalarOperand s.sew rs1; if a.ult b then a else b)) ∧
  (∀ (s : State) (vd vs2 vs1 : RegNum) (vm : Bool), Ready s = true → Legal s (.vminVV vd vs2 vs1 vm) = true →
    ∃ t, exec (.vminVV vd vs2 vs1 vm) s = .next t ∧ Frame s t ∧ DataDest s t vd s.sew s.lmul8 (fun e => vm || s.vmask 0 e)
      (fun e => let a := s.velem vs2.toNat s.sew e; let b := s.velem vs1.toNat s.sew e; if a.slt b then a else b)) ∧
  (∀ (s : State) (vd vs2 rs1 : RegNum) (vm : Bool), Ready s = true → Legal s (.vminVX vd vs2 rs1 vm) = true →
    ∃ t, exec (.vminVX vd vs2 rs1 vm) s = .next t ∧ Frame s t ∧ DataDest s t vd s.sew s.lmul8 (fun e => vm || s.vmask 0 e)
      (fun e => let a := s.velem vs2.toNat s.sew e; let b := s.scalarOperand s.sew rs1; if a.slt b then a else b)) ∧
  (∀ (s : State) (vd vs2 vs1 : RegNum) (vm : Bool), Ready s = true → Legal s (.vmaxuVV vd vs2 vs1 vm) = true →
    ∃ t, exec (.vmaxuVV vd vs2 vs1 vm) s = .next t ∧ Frame s t ∧ DataDest s t vd s.sew s.lmul8 (fun e => vm || s.vmask 0 e)
      (fun e => let a := s.velem vs2.toNat s.sew e; let b := s.velem vs1.toNat s.sew e; if b.ult a then a else b)) ∧
  (∀ (s : State) (vd vs2 rs1 : RegNum) (vm : Bool), Ready s = true → Legal s (.vmaxuVX vd vs2 rs1 vm) = true →
    ∃ t, exec (.vmaxuVX vd vs2 rs1 vm) s = .next t ∧ Frame s t ∧ DataDest s t vd s.sew s.lmul8 (fun e => vm || s.vmask 0 e)
      (fun e => let a := s.velem vs2.toNat s.sew e; let b := s.scalarOperand s.sew rs1; if b.ult a then a else b)) ∧
  (∀ (s : State) (vd vs2 vs1 : RegNum) (vm : Bool), Ready s = true → Legal s (.vmaxVV vd vs2 vs1 vm) = true →
    ∃ t, exec (.vmaxVV vd vs2 vs1 vm) s = .next t ∧ Frame s t ∧ DataDest s t vd s.sew s.lmul8 (fun e => vm || s.vmask 0 e)
      (fun e => let a := s.velem vs2.toNat s.sew e; let b := s.velem vs1.toNat s.sew e; if b.slt a then a else b)) ∧
  (∀ (s : State) (vd vs2 rs1 : RegNum) (vm : Bool), Ready s = true → Legal s (.vmaxVX vd vs2 rs1 vm) = true →
    ∃ t, exec (.vmaxVX vd vs2 rs1 vm) s = .next t ∧ Frame s t ∧ DataDest s t vd s.sew s.lmul8 (fun e => vm || s.vmask 0 e)
      (fun e => let a := s.velem vs2.toNat s.sew e; let b := s.scalarOperand s.sew rs1; if b.slt a then a else b))

/-- O40. vmul, vmulh, vmulhu, vmulhsu: the low or high half of the 2*SEW-bit product. In every state that is ready
(vector unit on, vill 0, vtype, vl and vstart as R41 requires, no vstart trap) and in which the encoding is legal at
this vtype, the instruction completes: each active element of vd is the product modulo 2^SEW (vmul), or bits
2*SEW-1:SEW of the 2*SEW-bit product of the operands both sign-extended (vmulh), both zero-extended (vmulhu), or vs2
sign-extended and the second operand zero-extended (vmulhsu). Prestart, inactive and tail elements follow R107 to
R113; registers outside the group and everything else but vstart, pc, mstatus.VS (log 4) and the draw counter (log
5) are unchanged. -/
def Obligations.MultiplyResults : Prop :=
  (∀ (s : State) (vd vs2 vs1 : RegNum) (vm : Bool), Ready s = true → Legal s (.vmulVV vd vs2 vs1 vm) = true →
    ∃ t, exec (.vmulVV vd vs2 vs1 vm) s = .next t ∧ Frame s t ∧ DataDest s t vd s.sew s.lmul8 (fun e => vm || s.vmask 0 e)
      (fun e => let a := s.velem vs2.toNat s.sew e; let b := s.velem vs1.toNat s.sew e; a * b)) ∧
  (∀ (s : State) (vd vs2 rs1 : RegNum) (vm : Bool), Ready s = true → Legal s (.vmulVX vd vs2 rs1 vm) = true →
    ∃ t, exec (.vmulVX vd vs2 rs1 vm) s = .next t ∧ Frame s t ∧ DataDest s t vd s.sew s.lmul8 (fun e => vm || s.vmask 0 e)
      (fun e => let a := s.velem vs2.toNat s.sew e; let b := s.scalarOperand s.sew rs1; a * b)) ∧
  (∀ (s : State) (vd vs2 vs1 : RegNum) (vm : Bool), Ready s = true → Legal s (.vmulhVV vd vs2 vs1 vm) = true →
    ∃ t, exec (.vmulhVV vd vs2 vs1 vm) s = .next t ∧ Frame s t ∧ DataDest s t vd s.sew s.lmul8 (fun e => vm || s.vmask 0 e)
      (fun e => let a := s.velem vs2.toNat s.sew e; let b := s.velem vs1.toNat s.sew e; (a.signExtend (2 * s.sew) * b.signExtend (2 * s.sew)).extractLsb' s.sew s.sew)) ∧
  (∀ (s : State) (vd vs2 rs1 : RegNum) (vm : Bool), Ready s = true → Legal s (.vmulhVX vd vs2 rs1 vm) = true →
    ∃ t, exec (.vmulhVX vd vs2 rs1 vm) s = .next t ∧ Frame s t ∧ DataDest s t vd s.sew s.lmul8 (fun e => vm || s.vmask 0 e)
      (fun e => let a := s.velem vs2.toNat s.sew e; let b := s.scalarOperand s.sew rs1; (a.signExtend (2 * s.sew) * b.signExtend (2 * s.sew)).extractLsb' s.sew s.sew)) ∧
  (∀ (s : State) (vd vs2 vs1 : RegNum) (vm : Bool), Ready s = true → Legal s (.vmulhuVV vd vs2 vs1 vm) = true →
    ∃ t, exec (.vmulhuVV vd vs2 vs1 vm) s = .next t ∧ Frame s t ∧ DataDest s t vd s.sew s.lmul8 (fun e => vm || s.vmask 0 e)
      (fun e => let a := s.velem vs2.toNat s.sew e; let b := s.velem vs1.toNat s.sew e; (a.setWidth (2 * s.sew) * b.setWidth (2 * s.sew)).extractLsb' s.sew s.sew)) ∧
  (∀ (s : State) (vd vs2 rs1 : RegNum) (vm : Bool), Ready s = true → Legal s (.vmulhuVX vd vs2 rs1 vm) = true →
    ∃ t, exec (.vmulhuVX vd vs2 rs1 vm) s = .next t ∧ Frame s t ∧ DataDest s t vd s.sew s.lmul8 (fun e => vm || s.vmask 0 e)
      (fun e => let a := s.velem vs2.toNat s.sew e; let b := s.scalarOperand s.sew rs1; (a.setWidth (2 * s.sew) * b.setWidth (2 * s.sew)).extractLsb' s.sew s.sew)) ∧
  (∀ (s : State) (vd vs2 vs1 : RegNum) (vm : Bool), Ready s = true → Legal s (.vmulhsuVV vd vs2 vs1 vm) = true →
    ∃ t, exec (.vmulhsuVV vd vs2 vs1 vm) s = .next t ∧ Frame s t ∧ DataDest s t vd s.sew s.lmul8 (fun e => vm || s.vmask 0 e)
      (fun e => let a := s.velem vs2.toNat s.sew e; let b := s.velem vs1.toNat s.sew e; (a.signExtend (2 * s.sew) * b.setWidth (2 * s.sew)).extractLsb' s.sew s.sew)) ∧
  (∀ (s : State) (vd vs2 rs1 : RegNum) (vm : Bool), Ready s = true → Legal s (.vmulhsuVX vd vs2 rs1 vm) = true →
    ∃ t, exec (.vmulhsuVX vd vs2 rs1 vm) s = .next t ∧ Frame s t ∧ DataDest s t vd s.sew s.lmul8 (fun e => vm || s.vmask 0 e)
      (fun e => let a := s.velem vs2.toNat s.sew e; let b := s.scalarOperand s.sew rs1; (a.signExtend (2 * s.sew) * b.setWidth (2 * s.sew)).extractLsb' s.sew s.sew))

/-- O41. vdivu, vdiv, vremu, vrem: quotient and remainder of vs2 by the second operand, defined for every input. In
every state that is ready (vector unit on, vill 0, vtype, vl and vstart as R41 requires, no vstart trap) and in
which the encoding is legal at this vtype, the instruction completes: each active element of vd is the quotient (all
ones for a zero divisor) or the remainder (the dividend for a zero divisor), unsigned, or signed rounding toward
zero; the most negative dividend by -1 gives itself and remainder 0. Prestart, inactive and tail elements follow
R107 to R113; registers outside the group and everything else but vstart, pc, mstatus.VS (log 4) and the draw
counter (log 5) are unchanged. -/
def Obligations.DivideRemainderResults : Prop :=
  (∀ (s : State) (vd vs2 vs1 : RegNum) (vm : Bool), Ready s = true → Legal s (.vdivuVV vd vs2 vs1 vm) = true →
    ∃ t, exec (.vdivuVV vd vs2 vs1 vm) s = .next t ∧ Frame s t ∧ DataDest s t vd s.sew s.lmul8 (fun e => vm || s.vmask 0 e)
      (fun e => let a := s.velem vs2.toNat s.sew e; let b := s.velem vs1.toNat s.sew e; if b = 0 then BitVec.allOnes s.sew else a / b)) ∧
  (∀ (s : State) (vd vs2 rs1 : RegNum) (vm : Bool), Ready s = true → Legal s (.vdivuVX vd vs2 rs1 vm) = true →
    ∃ t, exec (.vdivuVX vd vs2 rs1 vm) s = .next t ∧ Frame s t ∧ DataDest s t vd s.sew s.lmul8 (fun e => vm || s.vmask 0 e)
      (fun e => let a := s.velem vs2.toNat s.sew e; let b := s.scalarOperand s.sew rs1; if b = 0 then BitVec.allOnes s.sew else a / b)) ∧
  (∀ (s : State) (vd vs2 vs1 : RegNum) (vm : Bool), Ready s = true → Legal s (.vdivVV vd vs2 vs1 vm) = true →
    ∃ t, exec (.vdivVV vd vs2 vs1 vm) s = .next t ∧ Frame s t ∧ DataDest s t vd s.sew s.lmul8 (fun e => vm || s.vmask 0 e)
      (fun e => let a := s.velem vs2.toNat s.sew e; let b := s.velem vs1.toNat s.sew e; if b = 0 then BitVec.allOnes s.sew else a.sdiv b)) ∧
  (∀ (s : State) (vd vs2 rs1 : RegNum) (vm : Bool), Ready s = true → Legal s (.vdivVX vd vs2 rs1 vm) = true →
    ∃ t, exec (.vdivVX vd vs2 rs1 vm) s = .next t ∧ Frame s t ∧ DataDest s t vd s.sew s.lmul8 (fun e => vm || s.vmask 0 e)
      (fun e => let a := s.velem vs2.toNat s.sew e; let b := s.scalarOperand s.sew rs1; if b = 0 then BitVec.allOnes s.sew else a.sdiv b)) ∧
  (∀ (s : State) (vd vs2 vs1 : RegNum) (vm : Bool), Ready s = true → Legal s (.vremuVV vd vs2 vs1 vm) = true →
    ∃ t, exec (.vremuVV vd vs2 vs1 vm) s = .next t ∧ Frame s t ∧ DataDest s t vd s.sew s.lmul8 (fun e => vm || s.vmask 0 e)
      (fun e => let a := s.velem vs2.toNat s.sew e; let b := s.velem vs1.toNat s.sew e; if b = 0 then a else a % b)) ∧
  (∀ (s : State) (vd vs2 rs1 : RegNum) (vm : Bool), Ready s = true → Legal s (.vremuVX vd vs2 rs1 vm) = true →
    ∃ t, exec (.vremuVX vd vs2 rs1 vm) s = .next t ∧ Frame s t ∧ DataDest s t vd s.sew s.lmul8 (fun e => vm || s.vmask 0 e)
      (fun e => let a := s.velem vs2.toNat s.sew e; let b := s.scalarOperand s.sew rs1; if b = 0 then a else a % b)) ∧
  (∀ (s : State) (vd vs2 vs1 : RegNum) (vm : Bool), Ready s = true → Legal s (.vremVV vd vs2 vs1 vm) = true →
    ∃ t, exec (.vremVV vd vs2 vs1 vm) s = .next t ∧ Frame s t ∧ DataDest s t vd s.sew s.lmul8 (fun e => vm || s.vmask 0 e)
      (fun e => let a := s.velem vs2.toNat s.sew e; let b := s.velem vs1.toNat s.sew e; if b = 0 then a else a.srem b)) ∧
  (∀ (s : State) (vd vs2 rs1 : RegNum) (vm : Bool), Ready s = true → Legal s (.vremVX vd vs2 rs1 vm) = true →
    ∃ t, exec (.vremVX vd vs2 rs1 vm) s = .next t ∧ Frame s t ∧ DataDest s t vd s.sew s.lmul8 (fun e => vm || s.vmask 0 e)
      (fun e => let a := s.velem vs2.toNat s.sew e; let b := s.scalarOperand s.sew rs1; if b = 0 then a else a.srem b))

/-- O42. vwmul, vwmulu, vwmulsu: the full 2*SEW-bit product. In every state that is ready (vector unit on, vill 0,
vtype, vl and vstart as R41 requires, no vstart trap) and in which the encoding is legal at this vtype, the
instruction completes: each active 2*SEW-bit element of vd is the product of the operands both sign-extended
(vwmul), both zero-extended (vwmulu), or vs2 sign-extended and the second operand zero-extended (vwmulsu, decision
D15). Prestart, inactive and tail elements follow R107 to R113; registers outside the group and everything else but
vstart, pc, mstatus.VS (log 4) and the draw counter (log 5) are unchanged. -/
def Obligations.WideningMultiplyResults : Prop :=
  (∀ (s : State) (vd vs2 vs1 : RegNum) (vm : Bool), Ready s = true → Legal s (.vwmulVV vd vs2 vs1 vm) = true →
    ∃ t, exec (.vwmulVV vd vs2 vs1 vm) s = .next t ∧ Frame s t ∧ DataDest s t vd (2 * s.sew) (2 * s.lmul8) (fun e => vm || s.vmask 0 e)
      (fun e => let a := s.velem vs2.toNat s.sew e; let b := s.velem vs1.toNat s.sew e; a.signExtend (2 * s.sew) * b.signExtend (2 * s.sew))) ∧
  (∀ (s : State) (vd vs2 rs1 : RegNum) (vm : Bool), Ready s = true → Legal s (.vwmulVX vd vs2 rs1 vm) = true →
    ∃ t, exec (.vwmulVX vd vs2 rs1 vm) s = .next t ∧ Frame s t ∧ DataDest s t vd (2 * s.sew) (2 * s.lmul8) (fun e => vm || s.vmask 0 e)
      (fun e => let a := s.velem vs2.toNat s.sew e; let b := s.scalarOperand s.sew rs1; a.signExtend (2 * s.sew) * b.signExtend (2 * s.sew))) ∧
  (∀ (s : State) (vd vs2 vs1 : RegNum) (vm : Bool), Ready s = true → Legal s (.vwmuluVV vd vs2 vs1 vm) = true →
    ∃ t, exec (.vwmuluVV vd vs2 vs1 vm) s = .next t ∧ Frame s t ∧ DataDest s t vd (2 * s.sew) (2 * s.lmul8) (fun e => vm || s.vmask 0 e)
      (fun e => let a := s.velem vs2.toNat s.sew e; let b := s.velem vs1.toNat s.sew e; a.setWidth (2 * s.sew) * b.setWidth (2 * s.sew))) ∧
  (∀ (s : State) (vd vs2 rs1 : RegNum) (vm : Bool), Ready s = true → Legal s (.vwmuluVX vd vs2 rs1 vm) = true →
    ∃ t, exec (.vwmuluVX vd vs2 rs1 vm) s = .next t ∧ Frame s t ∧ DataDest s t vd (2 * s.sew) (2 * s.lmul8) (fun e => vm || s.vmask 0 e)
      (fun e => let a := s.velem vs2.toNat s.sew e; let b := s.scalarOperand s.sew rs1; a.setWidth (2 * s.sew) * b.setWidth (2 * s.sew))) ∧
  (∀ (s : State) (vd vs2 vs1 : RegNum) (vm : Bool), Ready s = true → Legal s (.vwmulsuVV vd vs2 vs1 vm) = true →
    ∃ t, exec (.vwmulsuVV vd vs2 vs1 vm) s = .next t ∧ Frame s t ∧ DataDest s t vd (2 * s.sew) (2 * s.lmul8) (fun e => vm || s.vmask 0 e)
      (fun e => let a := s.velem vs2.toNat s.sew e; let b := s.velem vs1.toNat s.sew e; a.signExtend (2 * s.sew) * b.setWidth (2 * s.sew))) ∧
  (∀ (s : State) (vd vs2 rs1 : RegNum) (vm : Bool), Ready s = true → Legal s (.vwmulsuVX vd vs2 rs1 vm) = true →
    ∃ t, exec (.vwmulsuVX vd vs2 rs1 vm) s = .next t ∧ Frame s t ∧ DataDest s t vd (2 * s.sew) (2 * s.lmul8) (fun e => vm || s.vmask 0 e)
      (fun e => let a := s.velem vs2.toNat s.sew e; let b := s.scalarOperand s.sew rs1; a.signExtend (2 * s.sew) * b.setWidth (2 * s.sew)))

/-- O43. vmacc, vnmsac, vmadd, vnmsub: multiply-add on the old destination, modulo 2^SEW. In every state that is ready
(vector unit on, vill 0, vtype, vl and vstart as R41 requires, no vstart trap) and in which the encoding is legal at
this vtype, the instruction completes: with a the vs2 element, b the vs1 element or scalar and d the old vd element,
each active element of vd is b*a + d (vmacc), d - b*a (vnmsac), b*d + a (vmadd), a - b*d (vnmsub), modulo 2^SEW.
Prestart, inactive and tail elements follow R107 to R113; registers outside the group and everything else but
vstart, pc, mstatus.VS (log 4) and the draw counter (log 5) are unchanged. -/
def Obligations.MultiplyAddResults : Prop :=
  (∀ (s : State) (vd vs1 vs2 : RegNum) (vm : Bool), Ready s = true → Legal s (.vmaccVV vd vs1 vs2 vm) = true →
    ∃ t, exec (.vmaccVV vd vs1 vs2 vm) s = .next t ∧ Frame s t ∧ DataDest s t vd s.sew s.lmul8 (fun e => vm || s.vmask 0 e)
      (fun e => let a := s.velem vs2.toNat s.sew e; let b := s.velem vs1.toNat s.sew e; let d := s.velem vd.toNat s.sew e; b * a + d)) ∧
  (∀ (s : State) (vd rs1 vs2 : RegNum) (vm : Bool), Ready s = true → Legal s (.vmaccVX vd rs1 vs2 vm) = true →
    ∃ t, exec (.vmaccVX vd rs1 vs2 vm) s = .next t ∧ Frame s t ∧ DataDest s t vd s.sew s.lmul8 (fun e => vm || s.vmask 0 e)
      (fun e => let a := s.velem vs2.toNat s.sew e; let b := s.scalarOperand s.sew rs1; let d := s.velem vd.toNat s.sew e; b * a + d)) ∧
  (∀ (s : State) (vd vs1 vs2 : RegNum) (vm : Bool), Ready s = true → Legal s (.vnmsacVV vd vs1 vs2 vm) = true →
    ∃ t, exec (.vnmsacVV vd vs1 vs2 vm) s = .next t ∧ Frame s t ∧ DataDest s t vd s.sew s.lmul8 (fun e => vm || s.vmask 0 e)
      (fun e => let a := s.velem vs2.toNat s.sew e; let b := s.velem vs1.toNat s.sew e; let d := s.velem vd.toNat s.sew e; d - b * a)) ∧
  (∀ (s : State) (vd rs1 vs2 : RegNum) (vm : Bool), Ready s = true → Legal s (.vnmsacVX vd rs1 vs2 vm) = true →
    ∃ t, exec (.vnmsacVX vd rs1 vs2 vm) s = .next t ∧ Frame s t ∧ DataDest s t vd s.sew s.lmul8 (fun e => vm || s.vmask 0 e)
      (fun e => let a := s.velem vs2.toNat s.sew e; let b := s.scalarOperand s.sew rs1; let d := s.velem vd.toNat s.sew e; d - b * a)) ∧
  (∀ (s : State) (vd vs1 vs2 : RegNum) (vm : Bool), Ready s = true → Legal s (.vmaddVV vd vs1 vs2 vm) = true →
    ∃ t, exec (.vmaddVV vd vs1 vs2 vm) s = .next t ∧ Frame s t ∧ DataDest s t vd s.sew s.lmul8 (fun e => vm || s.vmask 0 e)
      (fun e => let a := s.velem vs2.toNat s.sew e; let b := s.velem vs1.toNat s.sew e; let d := s.velem vd.toNat s.sew e; b * d + a)) ∧
  (∀ (s : State) (vd rs1 vs2 : RegNum) (vm : Bool), Ready s = true → Legal s (.vmaddVX vd rs1 vs2 vm) = true →
    ∃ t, exec (.vmaddVX vd rs1 vs2 vm) s = .next t ∧ Frame s t ∧ DataDest s t vd s.sew s.lmul8 (fun e => vm || s.vmask 0 e)
      (fun e => let a := s.velem vs2.toNat s.sew e; let b := s.scalarOperand s.sew rs1; let d := s.velem vd.toNat s.sew e; b * d + a)) ∧
  (∀ (s : State) (vd vs1 vs2 : RegNum) (vm : Bool), Ready s = true → Legal s (.vnmsubVV vd vs1 vs2 vm) = true →
    ∃ t, exec (.vnmsubVV vd vs1 vs2 vm) s = .next t ∧ Frame s t ∧ DataDest s t vd s.sew s.lmul8 (fun e => vm || s.vmask 0 e)
      (fun e => let a := s.velem vs2.toNat s.sew e; let b := s.velem vs1.toNat s.sew e; let d := s.velem vd.toNat s.sew e; a - b * d)) ∧
  (∀ (s : State) (vd rs1 vs2 : RegNum) (vm : Bool), Ready s = true → Legal s (.vnmsubVX vd rs1 vs2 vm) = true →
    ∃ t, exec (.vnmsubVX vd rs1 vs2 vm) s = .next t ∧ Frame s t ∧ DataDest s t vd s.sew s.lmul8 (fun e => vm || s.vmask 0 e)
      (fun e => let a := s.velem vs2.toNat s.sew e; let b := s.scalarOperand s.sew rs1; let d := s.velem vd.toNat s.sew e; a - b * d))

/-- O44. vwmaccu, vwmacc, vwmaccsu, vwmaccus: the 2*SEW-bit product added to the old 2*SEW-bit destination. In every
state that is ready (vector unit on, vill 0, vtype, vl and vstart as R41 requires, no vstart trap) and in which the
encoding is legal at this vtype, the instruction completes: each active 2*SEW-bit element of vd is the old element
plus the product of the second operand and the vs2 element: both zero-extended (vwmaccu), both sign-extended
(vwmacc), second operand signed and vs2 unsigned (vwmaccsu), second unsigned and vs2 signed (vwmaccus). Prestart,
inactive and tail elements follow R107 to R113; registers outside the group and everything else but vstart, pc,
mstatus.VS (log 4) and the draw counter (log 5) are unchanged. -/
def Obligations.WideningMultiplyAddResults : Prop :=
  (∀ (s : State) (vd vs1 vs2 : RegNum) (vm : Bool), Ready s = true → Legal s (.vwmaccuVV vd vs1 vs2 vm) = true →
    ∃ t, exec (.vwmaccuVV vd vs1 vs2 vm) s = .next t ∧ Frame s t ∧ DataDest s t vd (2 * s.sew) (2 * s.lmul8) (fun e => vm || s.vmask 0 e)
      (fun e => let a := s.velem vs2.toNat s.sew e; let b := s.velem vs1.toNat s.sew e; let d := s.velem vd.toNat (2 * s.sew) e; b.setWidth (2 * s.sew) * a.setWidth (2 * s.sew) + d)) ∧
  (∀ (s : State) (vd rs1 vs2 : RegNum) (vm : Bool), Ready s = true → Legal s (.vwmaccuVX vd rs1 vs2 vm) = true →
    ∃ t, exec (.vwmaccuVX vd rs1 vs2 vm) s = .next t ∧ Frame s t ∧ DataDest s t vd (2 * s.sew) (2 * s.lmul8) (fun e => vm || s.vmask 0 e)
      (fun e => let a := s.velem vs2.toNat s.sew e; let b := s.scalarOperand s.sew rs1; let d := s.velem vd.toNat (2 * s.sew) e; b.setWidth (2 * s.sew) * a.setWidth (2 * s.sew) + d)) ∧
  (∀ (s : State) (vd vs1 vs2 : RegNum) (vm : Bool), Ready s = true → Legal s (.vwmaccVV vd vs1 vs2 vm) = true →
    ∃ t, exec (.vwmaccVV vd vs1 vs2 vm) s = .next t ∧ Frame s t ∧ DataDest s t vd (2 * s.sew) (2 * s.lmul8) (fun e => vm || s.vmask 0 e)
      (fun e => let a := s.velem vs2.toNat s.sew e; let b := s.velem vs1.toNat s.sew e; let d := s.velem vd.toNat (2 * s.sew) e; b.signExtend (2 * s.sew) * a.signExtend (2 * s.sew) + d)) ∧
  (∀ (s : State) (vd rs1 vs2 : RegNum) (vm : Bool), Ready s = true → Legal s (.vwmaccVX vd rs1 vs2 vm) = true →
    ∃ t, exec (.vwmaccVX vd rs1 vs2 vm) s = .next t ∧ Frame s t ∧ DataDest s t vd (2 * s.sew) (2 * s.lmul8) (fun e => vm || s.vmask 0 e)
      (fun e => let a := s.velem vs2.toNat s.sew e; let b := s.scalarOperand s.sew rs1; let d := s.velem vd.toNat (2 * s.sew) e; b.signExtend (2 * s.sew) * a.signExtend (2 * s.sew) + d)) ∧
  (∀ (s : State) (vd vs1 vs2 : RegNum) (vm : Bool), Ready s = true → Legal s (.vwmaccsuVV vd vs1 vs2 vm) = true →
    ∃ t, exec (.vwmaccsuVV vd vs1 vs2 vm) s = .next t ∧ Frame s t ∧ DataDest s t vd (2 * s.sew) (2 * s.lmul8) (fun e => vm || s.vmask 0 e)
      (fun e => let a := s.velem vs2.toNat s.sew e; let b := s.velem vs1.toNat s.sew e; let d := s.velem vd.toNat (2 * s.sew) e; b.signExtend (2 * s.sew) * a.setWidth (2 * s.sew) + d)) ∧
  (∀ (s : State) (vd rs1 vs2 : RegNum) (vm : Bool), Ready s = true → Legal s (.vwmaccsuVX vd rs1 vs2 vm) = true →
    ∃ t, exec (.vwmaccsuVX vd rs1 vs2 vm) s = .next t ∧ Frame s t ∧ DataDest s t vd (2 * s.sew) (2 * s.lmul8) (fun e => vm || s.vmask 0 e)
      (fun e => let a := s.velem vs2.toNat s.sew e; let b := s.scalarOperand s.sew rs1; let d := s.velem vd.toNat (2 * s.sew) e; b.signExtend (2 * s.sew) * a.setWidth (2 * s.sew) + d)) ∧
  (∀ (s : State) (vd rs1 vs2 : RegNum) (vm : Bool), Ready s = true → Legal s (.vwmaccusVX vd rs1 vs2 vm) = true →
    ∃ t, exec (.vwmaccusVX vd rs1 vs2 vm) s = .next t ∧ Frame s t ∧ DataDest s t vd (2 * s.sew) (2 * s.lmul8) (fun e => vm || s.vmask 0 e)
      (fun e => let a := s.velem vs2.toNat s.sew e; let b := s.scalarOperand s.sew rs1; let d := s.velem vd.toNat (2 * s.sew) e; b.setWidth (2 * s.sew) * a.signExtend (2 * s.sew) + d))

/-- O45. vmerge: the second operand where the v0 bit is 1, else the vs2 element, at every body element. In every state
that is ready (vector unit on, vill 0, vtype, vl and vstart as R41 requires, no vstart trap) and in which the
encoding is legal at this vtype, the instruction completes: every body element of vd is the second operand where the
v0 bit is 1 and the vs2 element where it is 0. Prestart, inactive and tail elements follow R107 to R113; registers
outside the group and everything else but vstart, pc, mstatus.VS (log 4) and the draw counter (log 5) are unchanged. -/
def Obligations.MergeResults : Prop :=
  (∀ (s : State) (vd vs2 vs1 : RegNum), Ready s = true → Legal s (.vmergeVVM vd vs2 vs1) = true →
    ∃ t, exec (.vmergeVVM vd vs2 vs1) s = .next t ∧ Frame s t ∧ DataDest s t vd s.sew s.lmul8 (fun _ => true)
      (fun e => let a := s.velem vs2.toNat s.sew e; let b := s.velem vs1.toNat s.sew e; let c := s.vmask 0 e; if c then b else a)) ∧
  (∀ (s : State) (vd vs2 rs1 : RegNum), Ready s = true → Legal s (.vmergeVXM vd vs2 rs1) = true →
    ∃ t, exec (.vmergeVXM vd vs2 rs1) s = .next t ∧ Frame s t ∧ DataDest s t vd s.sew s.lmul8 (fun _ => true)
      (fun e => let a := s.velem vs2.toNat s.sew e; let b := s.scalarOperand s.sew rs1; let c := s.vmask 0 e; if c then b else a)) ∧
  (∀ (s : State) (vd vs2 : RegNum) (imm : BitVec 5), Ready s = true → Legal s (.vmergeVIM vd vs2 imm) = true →
    ∃ t, exec (.vmergeVIM vd vs2 imm) s = .next t ∧ Frame s t ∧ DataDest s t vd s.sew s.lmul8 (fun _ => true)
      (fun e => let a := s.velem vs2.toNat s.sew e; let b := imm.signExtend s.sew; let c := s.vmask 0 e; if c then b else a))

/-- O46. vmv.v.v, vmv.v.x, vmv.v.i: every body element is the source element, the scalar or the immediate. In every
state that is ready (vector unit on, vill 0, vtype, vl and vstart as R41 requires, no vstart trap) and in which the
encoding is legal at this vtype, the instruction completes: every body element of vd is the vs1 element, the scalar
adapted to SEW, or the sign-extended immediate; no register is read through vs2. Prestart, inactive and tail
elements follow R107 to R113; registers outside the group and everything else but vstart, pc, mstatus.VS (log 4) and
the draw counter (log 5) are unchanged. -/
def Obligations.MoveResults : Prop :=
  (∀ (s : State) (vd vs1 : RegNum), Ready s = true → Legal s (.vmvVV vd vs1) = true →
    ∃ t, exec (.vmvVV vd vs1) s = .next t ∧ Frame s t ∧ DataDest s t vd s.sew s.lmul8 (fun _ => true)
      (fun e => s.velem vs1.toNat s.sew e)) ∧
  (∀ (s : State) (vd rs1 : RegNum), Ready s = true → Legal s (.vmvVX vd rs1) = true →
    ∃ t, exec (.vmvVX vd rs1) s = .next t ∧ Frame s t ∧ DataDest s t vd s.sew s.lmul8 (fun _ => true)
      (fun _ => s.scalarOperand s.sew rs1)) ∧
  (∀ (s : State) (vd : RegNum) (imm : BitVec 5), Ready s = true → Legal s (.vmvVI vd imm) = true →
    ∃ t, exec (.vmvVI vd imm) s = .next t ∧ Frame s t ∧ DataDest s t vd s.sew s.lmul8 (fun _ => true)
      (fun _ => imm.signExtend s.sew))

/-- O47. The four division functions: ordinary case, zero divisor, overflow, and the division identity. R281, for every
width N of at least 1: divu, remu, div, rem have the values of the table in the ordinary case, for b = 0 and for
overflow; the non-zero signed remainder has the sign of the dividend. The identity dividend = quotient * divisor +
remainder, modulo 2^N in every case, is the spec's own inference ([derived] in R281). Each of the eight divide and
remainder instructions completes on every input with these values; that it makes mstatus.VS Dirty (log 4) and
advances the draw counter (log 5) is the model's choice. -/
def Obligations.DivisionFunctionsAreAsTheTableSays : Prop :=
  (∀ (n : Nat) (a b : BitVec n), 0 < n →
    (b ≠ 0 → (fDivu n a b).toNat = a.toNat / b.toNat ∧ (fRemu n a b).toNat = a.toNat % b.toNat) ∧
    (b = 0 → fDivu n a b = BitVec.allOnes n ∧ fRemu n a b = a ∧ fDiv n a b = BitVec.allOnes n ∧ fRem n a b = a) ∧
    (b ≠ 0 → ¬ (a.toInt = -(2 ^ (n - 1)) ∧ b.toInt = -1) →
      (fDiv n a b).toInt = a.toInt.tdiv b.toInt ∧ (fRem n a b).toInt = a.toInt - a.toInt.tdiv b.toInt * b.toInt ∧
      ((fRem n a b).toInt ≠ 0 → ((fRem n a b).toInt < 0 ↔ a.toInt < 0))) ∧
    (a.toInt = -(2 ^ (n - 1)) → b.toInt = -1 → fDiv n a b = a ∧ fRem n a b = 0) ∧
    a = fDivu n a b * b + fRemu n a b ∧ a = fDiv n a b * b + fRem n a b) ∧
  (∀ (s : State) (vd vs2 vs1 : RegNum) (vm : Bool) (i : Instr),
    i ∈ [Instr.vdivuVV vd vs2 vs1 vm, .vdivuVX vd vs2 vs1 vm, .vdivVV vd vs2 vs1 vm, .vdivVX vd vs2 vs1 vm,
      .vremuVV vd vs2 vs1 vm, .vremuVX vd vs2 vs1 vm, .vremVV vd vs2 vs1 vm, .vremVX vd vs2 vs1 vm] →
    Ready s = true → Legal s i = true → ∃ t, exec i s = .next t ∧ Frame s t ∧
      DataDest s t vd s.sew s.lmul8 (fun e => vm || s.vmask 0 e) fun e =>
        let a := s.velem vs2.toNat s.sew e
        let b := if i.form.vs1.isSome then s.velem vs1.toNat s.sew e else s.scalarOperand s.sew vs1
        match i with
        | .vdivuVV .. | .vdivuVX .. => fDivu s.sew a b
        | .vdivVV .. | .vdivVX .. => fDiv s.sew a b
        | .vremuVV .. | .vremuVX .. => fRemu s.sew a b
        | _ => fRem s.sew a b)

/-- O48. The scalar operand: the low SEW bits of x[rs1], or its sign extension where XLEN < SEW. R114: at width w with
XLEN >= w the operand is bits w-1:0 of x[rs1]; with XLEN < w its signed value is that of the XLEN-bit x[rs1]; with
rs1 = 0 it is 0. -/
def Obligations.ScalarOperandIsTheLowBitsOrTheSignExtension : Prop :=
  ∀ (s : State) (w : Nat) (rs1 : RegNum), w = 8 ∨ w = 16 ∨ w = 32 ∨ w = 64 →
  (w ≤ s.xbits → ∀ b, b < w → (s.scalarOperand w rs1).getLsbD b = (s.readX rs1).getLsbD b) ∧
  (s.xbits < w → (s.scalarOperand w rs1).toInt = ((s.readX rs1).setWidth s.xbits).toInt) ∧
  (rs1 = 0 → s.scalarOperand w rs1 = 0)

/-- O49. The immediate operand: sign-extended to SEW, and zero-extended for the shifts. R115, R68: the 5-bit field read
as a signed operand at width w has the signed value of the field, -16 to 15, and an unsigned value of 0 to 15 or 2^w
- 16 to 2^w - 1; read as a shift amount it is the field's unsigned value, 0 to 31. -/
def Obligations.ImmediateOperandIsSignExtendedButForShifts : Prop :=
  ∀ (s : State) (imm : BitVec 5) (w e : Nat), w = 8 ∨ w = 16 ∨ w = 32 ∨ w = 64 →
  (s.operand (.simm imm) w e).toInt = imm.toInt ∧
  ((s.operand (.simm imm) w e).toNat ≤ 15 ∨
    (2 ^ w - 16 ≤ (s.operand (.simm imm) w e).toNat ∧ (s.operand (.simm imm) w e).toNat ≤ 2 ^ w - 1)) ∧
  (s.operand (.uimm imm) w e).toNat = imm.toNat

/-- O50. Where an element lives: writing it changes exactly its bits, and a wide element is its byte elements, low
first. R25: writing element i of width w of the group at r, where its register r + i div (VLEN/w) exists, changes
exactly bits w*(i mod E) to w*(i mod E)+w-1 of that register and no other bit, and reading it back gives the value.
R53: bit b of a w-bit element is bit b mod 8 of 8-bit element i*w/8 + b/8. -/
def Obligations.ElementsArePackedFromTheLowBits : Prop :=
  ∀ (s : State) (r w i : Nat), w = 8 ∨ w = 16 ∨ w = 32 ∨ w = 64 → w ≤ s.vlen →
  (∀ val : BitVec w, r + i / (s.vlen / w) < 32 →
    elemOf s.vlen (setElem s.vlen s.v r w i val) r w i = val ∧
    (∀ b, b < w → (regOf (setElem s.vlen s.v r w i val) (r + i / (s.vlen / w))).getLsbD (w * (i % (s.vlen / w)) + b) =
      val.getLsbD b) ∧
    (∀ r' b, r' ≠ r + i / (s.vlen / w) ∨ b < w * (i % (s.vlen / w)) ∨ w * (i % (s.vlen / w)) + w ≤ b →
      (regOf (setElem s.vlen s.v r w i val) r').getLsbD b = (regOf s.v r').getLsbD b)) ∧
  (∀ b, b < w → (s.velem r w i).getLsbD b = (s.velem r 8 (i * (w / 8) + b / 8)).getLsbD (b % 8))

/-- O51. Where a mask element lives: bit i of the register, and writing it changes no other bit. R26: mask element i of
register r is bit i of v[r]; writing it, for i below VLEN, changes exactly that bit; and VLMAX is at most VLEN, so
every element index of a supported configuration has a mask bit. -/
def Obligations.MaskElementIsOneBitOfOneRegister : Prop :=
  ∀ (s : State) (r i : Nat), r < 32 → i < s.vlen →
  s.vmask r i = (regOf s.v r).getLsbD i ∧
  (∀ c : Bool, maskOf (setMask s.v r i c) r i = c ∧
    ∀ r' b, r' ≠ r ∨ b ≠ i → (regOf (setMask s.v r i c) r').getLsbD b = (regOf s.v r').getLsbD b) ∧
  (s.supported = true → s.vlmax ≤ s.vlen)

/-- O52. VLMAX = LMUL * VLEN / SEW is an integer, at least 1 and at most VLEN, for every supported configuration. R30:
with the parameters in range (ELEN at most VLEN), for every supported vtype, 8 * SEW * VLMAX is exactly eight times
LMUL times VLEN (LMUL is held in eighths), and VLMAX is at least 1 and at most VLEN. -/
def Obligations.VlmaxIsAnIntegerBetweenOneAndVlen : Prop :=
  ∀ s : State, s.elen ≤ s.vlen → s.supported = true →
  8 * s.sew * s.vlmax = s.lmul8 * s.vlen ∧ 1 ≤ s.vlmax ∧ s.vlmax ≤ s.vlen

/-- O53. x[0] reads as zero and discards writes; another x register reads back what was written, cut to XLEN. R20:
reading x[0] gives 0 in every state; writing it changes nothing; writing x[r] for r not 0 makes x[r] read as the
value modulo 2^XLEN, leaves every other x register as it was, and changes nothing else. No instruction writes an x
register (CompletionChangesOnlyTheDestination). -/
def Obligations.XRegisterZeroIsHardwired : Prop :=
  ∀ (s : State) (a : XWord), s.readX 0 = 0 ∧ s.writeX 0 a = s ∧
  ∀ r : RegNum, r ≠ 0 → ((s.writeX r a).readX r).toNat = a.toNat % 2 ^ s.xbits ∧
    (∀ r', r' ≠ r → (s.writeX r a).readX r' = s.readX r') ∧ { s.writeX r a with x := s.x } = s

/-- O54. vtype, vcsr and vlenb as whole words, and the control register numbers. R28: the vtype word has vlmul in bits
2:0, vsew in 5:3, vta in 6, vma in 7, vill in bit XLEN-1, and every other bit zero. R35: vcsr has vxsat in bit 0 and
vxrm in bits 2:1. R36: vlenb is VLEN / 8. R37: the seven numbers are those of these registers. That vcsr, vlenb and
the registers by number are views that hold nothing, and that no other number reads a register, is the model's
choice (log 15); so is that the bits of vxsat, vxrm and vcsr that R37 does not call used read as zero (log 17). -/
def Obligations.ControlRegisterViews : Prop :=
  ∀ s : State,
  (s.vtypeWord.extractLsb' 0 3 = s.vtype.vlmul ∧ s.vtypeWord.extractLsb' 3 3 = s.vtype.vsew ∧
    s.vtypeWord.getLsbD 6 = s.vtype.vta ∧ s.vtypeWord.getLsbD 7 = s.vtype.vma ∧
    s.vtypeWord.getLsbD (s.xbits - 1) = s.vtype.vill ∧
    ∀ b, 8 ≤ b → b ≠ s.xbits - 1 → s.vtypeWord.getLsbD b = false) ∧
  (s.vcsr.extractLsb' 0 1 = s.vxsat ∧ s.vcsr.extractLsb' 1 2 = s.vxrm) ∧
  (s.elen ≤ s.vlen → 8 * s.vlenb.toNat = s.vlen) ∧
  (s.readCsr 0x008 = some s.vstart ∧ (s.readCsr 0x009).map BitVec.toNat = some s.vxsat.toNat ∧
    (s.readCsr 0x00A).map BitVec.toNat = some s.vxrm.toNat ∧ (s.readCsr 0x00F).map BitVec.toNat = some s.vcsr.toNat ∧
    s.readCsr 0xC20 = some s.vl ∧ s.readCsr 0xC21 = some s.vtypeWord ∧ s.readCsr 0xC22 = some s.vlenb ∧
    ∀ n, n ∉ [0x008, 0x009, 0x00A, 0x00F, 0xC20, 0xC21, 0xC22] → s.readCsr n = none)

/-- O55. The reset state satisfies the invariant, x[0] is 0, and no text is listed (values: the model's choice, logs 1,
3, 4, 6). State.reset meets State.Wf and has x[0] = 0, which R40 gives; it is ready, which rests on the model's own
reset values (logs 1, 3, 4), and its memory lists nothing (log 6), so its step is the end of the text. -/
def Obligations.ResetStateIsWellFormed : Prop :=
  State.reset.Wf ∧ State.reset.readX 0 = 0 ∧ Ready State.reset = true ∧ step State.reset = .refused .endOfText

/-- O56. Every step keeps the invariant of the state. For every state that meets State.Wf (parameters in range, x[0]
zero, x and pc within XLEN bits, vector registers within VLEN bits, pc aligned, vtype supported and vl at most VLMAX
where vill is 0, vstart below VLEN, text in canonical form inside the address space): if step answers a next state,
that state meets it too. -/
def Obligations.EveryStepKeepsTheStateWellFormed : Prop :=
  ∀ s t : State, s.Wf → step s = .next t → t.Wf

/-- O57. The hint vmv.v.v vd, vd leaves body elements unchanged, and under vta = 0 the whole vector register file. R328:
in a ready state at a legal configuration vmv.v.v vd, vd completes with every body element unchanged, vstart 0 and
pc + 4; with vta = 0 the whole vector register file is unchanged; with vta = 1 a tail element may have become all
ones. vstart is reset, so that R328 calls it a no-operation only where vstart is 0 as well. That it makes mstatus.VS
Dirty (log 4) and advances the draw counter (log 5) is the model's choice. -/
def Obligations.MoveOntoItselfLeavesBodyElements : Prop :=
  ∀ (s : State) (vd : RegNum), Ready s = true → Legal s (.vmvVV vd vd) = true →
  ∃ t, exec (.vmvVV vd vd) s = .next t ∧ Frame s t ∧
    (∀ e, s.vstart.toNat ≤ e → e < s.vl.toNat → t.velem vd.toNat s.sew e = s.velem vd.toNat s.sew e) ∧
    (s.vtype.vta = false → ∀ r, regOf t.v r = regOf s.v r) ∧
    (∀ e, s.vl.toNat ≤ e → e < regCount s.lmul8 * s.vlen / s.sew →
      t.velem vd.toNat s.sew e = s.velem vd.toNat s.sew e ∨ t.velem vd.toNat s.sew e = BitVec.allOnes s.sew)

/-- O58. vmslt.vv v0, va, vb then vmslt.vv v0, vb, vc, v0.t leave (a < b) and (b < c) in v0, with vma = 0. R254: from a
ready state with vstart 0 and vma 0 in which both instructions are legal, both complete, and every bit i below vl of
v0 is then the AND of the two signed comparisons on the original elements. vstart is 0 because R254 speaks of every
i < vl: a prestart bit of v0 would keep its old value. -/
def Obligations.ChainedComparisonsAndUnderUndisturbedMask : Prop :=
  ∀ (s : State) (va vb vc : RegNum), Ready s = true → s.vstart = 0 → s.vtype.vma = false →
  Legal s (.vmsltVV 0 va vb true) = true → Legal s (.vmsltVV 0 vb vc false) = true →
  ∃ t u, exec (.vmsltVV 0 va vb true) s = .next t ∧ exec (.vmsltVV 0 vb vc false) t = .next u ∧
    ∀ e, e < s.vl.toNat → u.vmask 0 e =
      ((s.velem va.toNat s.sew e).slt (s.velem vb.toNat s.sew e) &&
        (s.velem vb.toNat s.sew e).slt (s.velem vc.toNat s.sew e))

/-- O59. vmadc.vvm then vadc.vvm give the full sum, vmsbc.vvm then vsbc.vvm the full difference, limb by limb. R356 with
R182 and R183, for the .vvm forms: from a ready state in which both are legal, with the carry-out in a register
other than v0 and apart from the data operands and the sum: both instructions complete and, for every body element,
sum + 2^SEW * carry-out = vs2 + vs1 + carry-in, and vs2 + 2^SEW * borrow-out = difference + vs1 + borrow-in, over
the naturals; the sum may overwrite an input. -/
def Obligations.CarryPairComputesTheFullSumAndDifference : Prop :=
  ∀ (s : State) (m vd vs2 vs1 : RegNum), Ready s = true → m ≠ 0 → disjoint m 8 vd s.lmul8 = true →
  disjoint m 8 vs2 s.lmul8 = true → disjoint m 8 vs1 s.lmul8 = true →
  (Legal s (.vmadcVVM m vs2 vs1) = true → Legal s (.vadcVVM vd vs2 vs1) = true →
    ∃ t u, exec (.vmadcVVM m vs2 vs1) s = .next t ∧ exec (.vadcVVM vd vs2 vs1) t = .next u ∧
      ∀ e, s.vstart.toNat ≤ e → e < s.vl.toNat →
        (u.velem vd.toNat s.sew e).toNat + 2 ^ s.sew * (u.vmask m.toNat e).toNat =
          (s.velem vs2.toNat s.sew e).toNat + (s.velem vs1.toNat s.sew e).toNat + (s.vmask 0 e).toNat) ∧
  (Legal s (.vmsbcVVM m vs2 vs1) = true → Legal s (.vsbcVVM vd vs2 vs1) = true →
    ∃ t u, exec (.vmsbcVVM m vs2 vs1) s = .next t ∧ exec (.vsbcVVM vd vs2 vs1) t = .next u ∧
      ∀ e, s.vstart.toNat ≤ e → e < s.vl.toNat →
        (s.velem vs2.toNat s.sew e).toNat + 2 ^ s.sew * (u.vmask m.toNat e).toNat =
          (u.velem vd.toNat s.sew e).toNat + (s.velem vs1.toNat s.sew e).toNat + (s.vmask 0 e).toNat)

/-- O60. vneg.v, vnot.v, vwcvt[u].x.x.v and vncvt.x.x.w negate, complement, widen and narrow. R90 to R93: vrsub.vx with
x0 negates each active element modulo 2^SEW, vxor.vi with -1 complements it, vwadd.vx and vwaddu.vx with x0 sign-
and zero-extend it to 2*SEW, and vnsrl.wx with x0 keeps its low half. Each completes; that it makes mstatus.VS Dirty
(log 4) and advances the draw counter (log 5) is the model's choice. -/
def Obligations.PseudoInstructionIdioms : Prop :=
  (∀ (s : State) (vd vs : RegNum) (vm : Bool), Ready s = true → Legal s (.vrsubVX vd vs 0 vm) = true →
    ∃ t, exec (.vrsubVX vd vs 0 vm) s = .next t ∧ Frame s t ∧ DataDest s t vd s.sew s.lmul8 (fun e => vm || s.vmask 0 e)
      (fun e => -(s.velem vs.toNat s.sew e))) ∧
  (∀ (s : State) (vd vs : RegNum) (vm : Bool), Ready s = true → Legal s (.vxorVI vd vs 31 vm) = true →
    ∃ t, exec (.vxorVI vd vs 31 vm) s = .next t ∧ Frame s t ∧ DataDest s t vd s.sew s.lmul8 (fun e => vm || s.vmask 0 e)
      (fun e => ~~~(s.velem vs.toNat s.sew e))) ∧
  (∀ (s : State) (vd vs : RegNum) (vm : Bool), Ready s = true → Legal s (.vwaddVX vd vs 0 vm) = true →
    ∃ t, exec (.vwaddVX vd vs 0 vm) s = .next t ∧ Frame s t ∧ DataDest s t vd (2 * s.sew) (2 * s.lmul8) (fun e => vm || s.vmask 0 e)
      (fun e => (s.velem vs.toNat s.sew e).signExtend (2 * s.sew))) ∧
  (∀ (s : State) (vd vs : RegNum) (vm : Bool), Ready s = true → Legal s (.vwadduVX vd vs 0 vm) = true →
    ∃ t, exec (.vwadduVX vd vs 0 vm) s = .next t ∧ Frame s t ∧ DataDest s t vd (2 * s.sew) (2 * s.lmul8) (fun e => vm || s.vmask 0 e)
      (fun e => (s.velem vs.toNat s.sew e).setWidth (2 * s.sew))) ∧
  (∀ (s : State) (vd vs : RegNum) (vm : Bool), Ready s = true → Legal s (.vnsrlWX vd vs 0 vm) = true →
    ∃ t, exec (.vnsrlWX vd vs 0 vm) s = .next t ∧ Frame s t ∧ DataDest s t vd s.sew s.lmul8 (fun e => vm || s.vmask 0 e)
      (fun e => (s.velem vs.toNat (2 * s.sew) e).setWidth s.sew))
end

