-- ==== Sys2Proof/Laws/Alu.lean ====
section
/-! SUPPORT. The element functions, written in the exact arithmetic of the rules, as operations on bit vectors (R10, R13). -/

namespace Sys2Proof.Machine

theorem trunc_toNat (n : Nat) (a : BitVec n) (z : Int) (h : z % 2 ^ n = (a.toNat : Int) % 2 ^ n) : trunc n z = a := by
  apply BitVec.eq_of_toNat_eq
  unfold trunc
  rw [BitVec.toNat_ofInt]
  have : ((2 ^ n : Nat) : Int) = 2 ^ n := by push_cast; rfl
  rw [this, h, Int.emod_eq_of_lt (by omega) (by exact_mod_cast a.isLt)]
  simp

theorem trunc_add (n : Nat) (y z : Int) : trunc n (y + z) = trunc n y + trunc n z := BitVec.ofInt_add y z
theorem trunc_mul (n : Nat) (y z : Int) : trunc n (y * z) = trunc n y * trunc n z := BitVec.ofInt_mul y z
theorem trunc_neg (n : Nat) (z : Int) : trunc n (-z) = -trunc n z := BitVec.ofInt_neg
theorem trunc_sub (n : Nat) (y z : Int) : trunc n (y - z) = trunc n y - trunc n z := by
  rw [Int.sub_eq_add_neg, trunc_add, trunc_neg, BitVec.sub_eq_add_neg]
theorem trunc_uint (n : Nat) (a : BitVec n) : trunc n (uint a) = a := by
  simp [trunc, uint]
theorem trunc_sint (n : Nat) (a : BitVec n) : trunc n (sint a) = a := by
  simp [trunc, sint]
theorem trunc_uint_wide (n m : Nat) (a : BitVec n) : trunc m (uint a) = a.setWidth m := by
  unfold trunc uint
  apply BitVec.eq_of_toNat_eq
  simp
theorem trunc_sint_wide (n m : Nat) (a : BitVec n) : trunc m (sint a) = a.signExtend m := by
  rfl
theorem trunc_bit (n : Nat) (c : Bool) : trunc n (bit c) = (BitVec.ofBool c).setWidth n := by
  cases c
  · simp [trunc, bit]
  · apply BitVec.eq_of_toNat_eq; simp [trunc, bit]

theorem fAdd_eq (n : Nat) (a b : BitVec n) : fAdd n a b = a + b := by
  simp [fAdd, trunc_add, trunc_uint]
theorem fSub_eq (n : Nat) (a b : BitVec n) : fSub n a b = a - b := by
  simp [fSub, trunc_sub, trunc_uint]
theorem fRsub_eq (n : Nat) (a b : BitVec n) : fRsub n a b = b - a := by
  simp [fRsub, trunc_sub, trunc_uint]
theorem fWaddu_eq (n : Nat) (a b : BitVec n) : fWaddu n a b = a.setWidth (2 * n) + b.setWidth (2 * n) := by
  simp [fWaddu, trunc_add, trunc_uint_wide]
theorem fWsubu_eq (n : Nat) (a b : BitVec n) : fWsubu n a b = a.setWidth (2 * n) - b.setWidth (2 * n) := by
  simp [fWsubu, trunc_sub, trunc_uint_wide]
theorem fWadd_eq (n : Nat) (a b : BitVec n) : fWadd n a b = a.signExtend (2 * n) + b.signExtend (2 * n) := by
  simp [fWadd, trunc_add, trunc_sint_wide]
theorem fWsub_eq (n : Nat) (a b : BitVec n) : fWsub n a b = a.signExtend (2 * n) - b.signExtend (2 * n) := by
  simp [fWsub, trunc_sub, trunc_sint_wide]
theorem fWadduW_eq (n : Nat) (a : BitVec (2 * n)) (b : BitVec n) : fWadduW n a b = a + b.setWidth (2 * n) := by
  simp [fWadduW, trunc_add, trunc_uint_wide]
theorem fWsubuW_eq (n : Nat) (a : BitVec (2 * n)) (b : BitVec n) : fWsubuW n a b = a - b.setWidth (2 * n) := by
  simp [fWsubuW, trunc_sub, trunc_uint_wide]
theorem fWaddW_eq (n : Nat) (a : BitVec (2 * n)) (b : BitVec n) : fWaddW n a b = a + b.signExtend (2 * n) := by
  simp [fWaddW, trunc_add, trunc_sint_wide]
theorem fWsubW_eq (n : Nat) (a : BitVec (2 * n)) (b : BitVec n) : fWsubW n a b = a - b.signExtend (2 * n) := by
  simp [fWsubW, trunc_sub, trunc_sint_wide]
theorem fAdc_eq (n : Nat) (a b : BitVec n) (c : Bool) : fAdc n a b c = a + b + (BitVec.ofBool c).setWidth n := by
  simp only [fAdc, trunc_add, trunc_uint, trunc_bit]
theorem fSbc_eq (n : Nat) (a b : BitVec n) (c : Bool) : fSbc n a b c = a - b - (BitVec.ofBool c).setWidth n := by
  simp only [fSbc, trunc_sub, trunc_uint, trunc_bit]

theorem sll_eq (n : Nat) (a : BitVec n) (k : Nat) : sll n a k = a <<< k := by
  apply BitVec.eq_of_toNat_eq
  unfold sll trunc uint
  rw [BitVec.toNat_ofInt, BitVec.toNat_shiftLeft, Nat.shiftLeft_eq]
  norm_cast
theorem srl_eq (n : Nat) (a : BitVec n) (k : Nat) : srl n a k = a >>> k := by
  apply trunc_toNat
  unfold uint
  rw [BitVec.toNat_ushiftRight, Nat.shiftRight_eq_div_pow]
  norm_cast
theorem sra_eq (n : Nat) (a : BitVec n) (k : Nat) : sra n a k = a.sshiftRight k := by
  unfold sra sint
  have h : a.toInt / 2 ^ k = (a.sshiftRight k).toInt := by
    rw [BitVec.toInt_sshiftRight, Int.shiftRight_eq_div_pow]; norm_cast
  rw [h]
  exact BitVec.ofInt_toInt

theorem fMinu_eq (n : Nat) (a b : BitVec n) : fMinu n a b = if a.ult b then a else b := by
  by_cases h : a = b
  · subst h; simp [fMinu]
  · have hn : a.toNat ≠ b.toNat := fun e => h (BitVec.eq_of_toNat_eq e)
    have hc : (uint a ≤ uint b) ↔ a.toNat < b.toNat := by unfold uint; omega
    simp only [fMinu, hc, BitVec.ult, decide_eq_true_eq]
theorem fMaxu_eq (n : Nat) (a b : BitVec n) : fMaxu n a b = if b.ult a then a else b := by
  by_cases h : a = b
  · subst h; simp [fMaxu]
  · have hn : a.toNat ≠ b.toNat := fun e => h (BitVec.eq_of_toNat_eq e)
    have hc : (uint b ≤ uint a) ↔ b.toNat < a.toNat := by unfold uint; omega
    simp only [fMaxu, hc, BitVec.ult, decide_eq_true_eq]
theorem fMin_eq (n : Nat) (a b : BitVec n) : fMin n a b = if a.slt b then a else b := by
  by_cases h : a = b
  · subst h; simp [fMin]
  · have hn : a.toInt ≠ b.toInt := fun e => h (BitVec.eq_of_toInt_eq e)
    have hc : (sint a ≤ sint b) ↔ a.toInt < b.toInt := by unfold sint; omega
    simp only [fMin, hc, BitVec.slt, decide_eq_true_eq]
theorem fMax_eq (n : Nat) (a b : BitVec n) : fMax n a b = if b.slt a then a else b := by
  by_cases h : a = b
  · subst h; simp [fMax]
  · have hn : a.toInt ≠ b.toInt := fun e => h (BitVec.eq_of_toInt_eq e)
    have hc : (sint b ≤ sint a) ↔ b.toInt < a.toInt := by unfold sint; omega
    simp only [fMax, hc, BitVec.slt, decide_eq_true_eq]

theorem fMul_eq (n : Nat) (a b : BitVec n) : fMul n a b = a * b := by
  simp [fMul, trunc_mul, trunc_sint]
/-- Bits `2n-1` to `n` of a product. -/
theorem mulhi_eq (n : Nat) (z : Int) : mulhi n z = (trunc (2 * n) z).extractLsb' n n := by
  unfold mulhi
  apply trunc_toNat
  unfold trunc
  rw [BitVec.extractLsb'_toNat, BitVec.toNat_ofInt, Nat.shiftRight_eq_div_pow]
  push_cast
  rw [two_mul, pow_add]
  have hp : (0 : Int) < 2 ^ n := by positivity
  have hu : 0 ≤ z % (2 ^ n * 2 ^ n) := Int.emod_nonneg _ (by positivity)
  rw [Int.toNat_of_nonneg hu, Int.emod_emod]
  conv_lhs => rw [← Int.emod_add_mul_ediv z (2 ^ n * 2 ^ n), mul_assoc, Int.add_mul_ediv_left _ _ hp.ne',
    Int.add_mul_emod_self_left]

theorem fMulh_eq (n : Nat) (a b : BitVec n) :
    fMulh n a b = (a.signExtend (2 * n) * b.signExtend (2 * n)).extractLsb' n n := by
  simp [fMulh, mulhi_eq, trunc_mul, trunc_sint_wide]
theorem fMulhu_eq (n : Nat) (a b : BitVec n) :
    fMulhu n a b = (a.setWidth (2 * n) * b.setWidth (2 * n)).extractLsb' n n := by
  simp [fMulhu, mulhi_eq, trunc_mul, trunc_uint_wide]
theorem fMulhsu_eq (n : Nat) (a b : BitVec n) :
    fMulhsu n a b = (a.signExtend (2 * n) * b.setWidth (2 * n)).extractLsb' n n := by
  simp [fMulhsu, mulhi_eq, trunc_mul, trunc_uint_wide, trunc_sint_wide]

theorem fWmul_eq (n : Nat) (a b : BitVec n) : fWmul n a b = a.signExtend (2 * n) * b.signExtend (2 * n) := by
  simp [fWmul, trunc_mul, trunc_sint_wide]
theorem fWmulu_eq (n : Nat) (a b : BitVec n) : fWmulu n a b = a.setWidth (2 * n) * b.setWidth (2 * n) := by
  simp [fWmulu, trunc_mul, trunc_uint_wide]
theorem fWmulsu_eq (n : Nat) (a b : BitVec n) : fWmulsu n a b = a.signExtend (2 * n) * b.setWidth (2 * n) := by
  simp [fWmulsu, trunc_mul, trunc_uint_wide, trunc_sint_wide]

theorem fMacc_eq (n : Nat) (a b d : BitVec n) : fMacc n a b d = b * a + d := by
  simp [fMacc, trunc_add, trunc_mul, trunc_uint]
theorem fNmsac_eq (n : Nat) (a b d : BitVec n) : fNmsac n a b d = d - b * a := by
  simp [fNmsac, trunc_sub, trunc_mul, trunc_uint]
theorem fMadd_eq (n : Nat) (a b d : BitVec n) : fMadd n a b d = b * d + a := by
  simp [fMadd, trunc_add, trunc_mul, trunc_uint]
theorem fNmsub_eq (n : Nat) (a b d : BitVec n) : fNmsub n a b d = a - b * d := by
  simp [fNmsub, trunc_sub, trunc_mul, trunc_uint]
theorem fWmaccu_eq (n : Nat) (a b : BitVec n) (d : BitVec (2 * n)) :
    fWmaccu n a b d = b.setWidth (2 * n) * a.setWidth (2 * n) + d := by
  simp [fWmaccu, trunc_add, trunc_mul, trunc_uint, trunc_uint_wide]
theorem fWmacc_eq (n : Nat) (a b : BitVec n) (d : BitVec (2 * n)) :
    fWmacc n a b d = b.signExtend (2 * n) * a.signExtend (2 * n) + d := by
  simp [fWmacc, trunc_add, trunc_mul, trunc_uint, trunc_sint_wide]
theorem fWmaccsu_eq (n : Nat) (a b : BitVec n) (d : BitVec (2 * n)) :
    fWmaccsu n a b d = b.signExtend (2 * n) * a.setWidth (2 * n) + d := by
  simp [fWmaccsu, trunc_add, trunc_mul, trunc_uint, trunc_sint_wide, trunc_uint_wide]
theorem fWmaccus_eq (n : Nat) (a b : BitVec n) (d : BitVec (2 * n)) :
    fWmaccus n a b d = b.setWidth (2 * n) * a.signExtend (2 * n) + d := by
  simp [fWmaccus, trunc_add, trunc_mul, trunc_uint, trunc_sint_wide, trunc_uint_wide]

theorem zext_eq (n m : Nat) (a : BitVec n) : zext m a = a.setWidth m := trunc_uint_wide n m a
theorem sext_eq (n m : Nat) (a : BitVec n) : sext m a = a.signExtend m := rfl

theorem fDivu_eq (n : Nat) (a b : BitVec n) : fDivu n a b = if b = 0 then BitVec.allOnes n else a / b := by
  have hz : (uint b = 0) ↔ b = 0 := by simp [uint, BitVec.toNat_eq]
  unfold fDivu
  by_cases h : b = 0
  · rw [if_pos (hz.mpr h), if_pos h]
  · rw [if_neg (mt hz.mp h), if_neg h]
    apply trunc_toNat
    simp [uint]
theorem fRemu_eq (n : Nat) (a b : BitVec n) : fRemu n a b = if b = 0 then a else a % b := by
  have hz : (uint b = 0) ↔ b = 0 := by simp [uint, BitVec.toNat_eq]
  unfold fRemu
  by_cases h : b = 0
  · rw [if_pos (hz.mpr h), if_pos h]
  · rw [if_neg (mt hz.mp h), if_neg h]
    apply trunc_toNat
    simp [uint]

theorem trunc_tdiv (n : Nat) (a b : BitVec n) : trunc n ((sint a).tdiv (sint b)) = a.sdiv b := by
  apply BitVec.eq_of_toInt_eq
  rw [BitVec.toInt_sdiv, trunc, BitVec.toInt_ofInt]
  rfl
theorem trunc_trem (n : Nat) (a b : BitVec n) :
    trunc n (sint a - (sint a).tdiv (sint b) * sint b) = a.srem b := by
  have h : sint a - (sint a).tdiv (sint b) * sint b = (a.srem b).toInt := by
    rw [BitVec.toInt_srem, Int.tmod_def, mul_comm]; rfl
  rw [h]
  exact BitVec.ofInt_toInt

/-- `BitVec.sdiv` has the overflow case of the table; only the zero divisor differs. -/
theorem fDiv_eq (n : Nat) (a b : BitVec n) : fDiv n a b = if b = 0 then BitVec.allOnes n else a.sdiv b := by
  have hz : (uint b = 0) ↔ b = 0 := by simp [uint, BitVec.toNat_eq]
  unfold fDiv
  by_cases h : b = 0
  · rw [if_pos (hz.mpr h), if_pos h]
  · rw [if_neg (mt hz.mp h), if_neg h]
    split
    · rename_i ho
      rw [← trunc_tdiv, ho.2, show (-1 : Int) = -(1 : Int) from rfl, Int.tdiv_neg, Int.tdiv_one, trunc_neg, trunc_sint]
      rcases Nat.eq_zero_or_pos n with hn | hn
      · subst hn; exact Subsingleton.elim _ _
      · have ha : a = trunc n (-(2 ^ (n - 1))) := by rw [← ho.1, trunc_sint]
        have h2 : trunc n (2 ^ (n - 1) + 2 ^ (n - 1)) = 0 := by
          obtain ⟨m, rfl⟩ : ∃ m, n = m + 1 := ⟨n - 1, by omega⟩
          apply trunc_toNat
          rw [Nat.add_sub_cancel, ← two_mul, ← pow_succ']
          simp
        rw [trunc_neg] at ha
        rw [trunc_add] at h2
        rw [ha, BitVec.neg_neg]
        exact (eq_neg_of_add_eq_zero_left h2).symm
    · exact trunc_tdiv n a b
theorem fRem_eq (n : Nat) (a b : BitVec n) : fRem n a b = if b = 0 then a else a.srem b := by
  have hz : (uint b = 0) ↔ b = 0 := by simp [uint, BitVec.toNat_eq]
  unfold fRem
  by_cases h : b = 0
  · rw [if_pos (hz.mpr h), if_pos h]
  · rw [if_neg (mt hz.mp h), if_neg h]
    split
    · rename_i ho
      apply BitVec.eq_of_toInt_eq
      have hb : b.toInt = -1 := ho.2
      rw [BitVec.toInt_srem, hb]
      simp
    · exact trunc_trem n a b

/-! ### The one-bit results -/

theorem carryOut_eq (n : Nat) (a b : BitVec n) (c : Bool) :
    carryOut n a b c = decide (2 ^ n ≤ a.toNat + b.toNat + c.toNat) := by
  cases c <;> simp only [carryOut, uint, bit, decide_eq_decide] <;> norm_cast
theorem borrowOut_eq (n : Nat) (a b : BitVec n) (c : Bool) :
    borrowOut n a b c = decide (a.toNat < b.toNat + c.toNat) := by
  cases c <;> simp only [borrowOut, uint, bit, decide_eq_decide] <;> simp <;> omega
theorem cmpEq_eq (n : Nat) (a b : BitVec n) : cmpEq n a b = (a == b) := rfl
theorem cmpNe_eq (n : Nat) (a b : BitVec n) : cmpNe n a b = (a != b) := by
  simp [cmpNe, bne, beq_eq_decide]
theorem cmpLtu_eq (n : Nat) (a b : BitVec n) : cmpLtu n a b = a.ult b := by simp [cmpLtu, uint, BitVec.ult]
theorem cmpLeu_eq (n : Nat) (a b : BitVec n) : cmpLeu n a b = a.ule b := by simp [cmpLeu, uint, BitVec.ule]
theorem cmpGtu_eq (n : Nat) (a b : BitVec n) : cmpGtu n a b = b.ult a := by simp [cmpGtu, uint, BitVec.ult]
theorem cmpLt_eq (n : Nat) (a b : BitVec n) : cmpLt n a b = a.slt b := rfl
theorem cmpLe_eq (n : Nat) (a b : BitVec n) : cmpLe n a b = a.sle b := rfl
theorem cmpGt_eq (n : Nat) (a b : BitVec n) : cmpGt n a b = b.slt a := rfl

end Sys2Proof.Machine
end

