-- ==== Sys2Proof/Laws/Config.lean ====
section
/-! SUPPORT. The arithmetic of configurations: widths, group sizes, `VLMAX` and the ends of groups (R6, R7, R24, R29 to R31). -/

namespace Sys2Proof.Machine

theorem vlen_le (s : State) : s.vlen ≤ maxVlen := by
  have h : s.cfg.lgVlen.val ≤ 16 := by omega
  calc s.vlen = 2 ^ s.cfg.lgVlen.val := rfl
    _ ≤ 2 ^ 16 := Nat.pow_le_pow_right (by omega) h
    _ = maxVlen := rfl

theorem vlen_pos (s : State) : 0 < s.vlen := Nat.pow_pos (by omega)

theorem elen_cases (s : State) : s.elen = 8 ∨ s.elen = 16 ∨ s.elen = 32 ∨ s.elen = 64 := by
  unfold State.elen; cases s.cfg.elen <;> simp

theorem xbits_cases (s : State) : s.xbits = 32 ∨ s.xbits = 64 := by
  unfold State.xbits; cases s.cfg.xlen <;> simp

theorem lmul8_cases (s : State) (h : s.supported = true) :
    s.lmul8 = 1 ∨ s.lmul8 = 2 ∨ s.lmul8 = 4 ∨ s.lmul8 = 8 ∨ s.lmul8 = 16 ∨ s.lmul8 = 32 ∨ s.lmul8 = 64 := by
  have h4 : s.vtype.vlmul ≠ 4 := by
    simp only [State.supported, Bool.and_eq_true, bne_iff_ne] at h; exact h.1.1.2
  unfold State.lmul8
  generalize s.vtype.vlmul = m at h4
  revert m; decide

theorem sew_cases (s : State) (h : s.supported = true) : s.sew = 8 ∨ s.sew = 16 ∨ s.sew = 32 ∨ s.sew = 64 := by
  have h4 : s.vtype.vsew.toNat < 4 := by
    simp only [State.supported, Bool.and_eq_true, decide_eq_true_eq] at h; exact h.1.1.1
  unfold State.sew
  generalize s.vtype.vsew.toNat = n at h4
  interval_cases n <;> simp

theorem sew_le_elen (s : State) (h : s.supported = true) : s.sew ≤ s.elen := by
  simp only [State.supported, Bool.and_eq_true, decide_eq_true_eq] at h; exact h.1.2

/-- A supported width divides a register (R6, R7). -/
theorem width_dvd_vlen (s : State) (w : Nat) (hw : w = 8 ∨ w = 16 ∨ w = 32 ∨ w = 64) (hle : w ≤ s.vlen) : w ∣ s.vlen := by
  have key : ∀ j : Nat, w = 2 ^ j → w ∣ s.vlen := by
    intro j hj
    subst hj
    exact Nat.pow_dvd_pow 2 ((Nat.pow_le_pow_iff_right (by omega)).mp hle)
  rcases hw with h | h | h | h
  · exact key 3 (by simpa using h)
  · exact key 4 (by simpa using h)
  · exact key 5 (by simpa using h)
  · exact key 6 (by simpa using h)

/-- The elements of a group at `EMUL = m8/8` end no later than its last register (R25, R112). -/
theorem vlmax_le_tailEnd (m8 vlen w : Nat) (hm : m8 < 8 ∨ 8 ∣ m8) : m8 * vlen / (8 * w) ≤ regCount m8 * vlen / w := by
  rw [← Nat.div_div_eq_div_mul]
  apply Nat.div_le_div_right
  unfold regCount
  rcases hm with h | ⟨q, rfl⟩
  · calc m8 * vlen / 8 ≤ 8 * vlen / 8 := Nat.div_le_div_right (Nat.mul_le_mul_right _ h.le)
      _ = 1 * vlen := by omega
      _ ≤ max 1 (m8 / 8) * vlen := Nat.mul_le_mul_right _ (le_max_left _ _)
  · rw [Nat.mul_div_cancel_left q (by omega), Nat.mul_assoc, Nat.mul_div_cancel_left _ (by omega)]
    exact Nat.mul_le_mul_right _ (le_max_right _ _)

/-- `VLMAX` is the same for a group of twice the width and twice the multiplier (R101). -/
theorem vlmax_double (s : State) : 2 * s.lmul8 * s.vlen / (8 * (2 * s.sew)) = s.vlmax := by
  unfold State.vlmax
  rw [show 2 * s.lmul8 * s.vlen = 2 * (s.lmul8 * s.vlen) by ring, show 8 * (2 * s.sew) = 2 * (8 * s.sew) by ring]
  exact Nat.mul_div_mul_left _ _ (by omega)

/-- `VLMAX <= VLEN` (R26, R30). -/
theorem vlmax_le_vlen (s : State) (h : s.supported = true) : s.vlmax ≤ s.vlen := by
  unfold State.vlmax
  have hl : s.lmul8 ≤ 64 := by rcases lmul8_cases s h with h | h | h | h | h | h | h <;> omega
  have hs : 8 ≤ s.sew := by rcases sew_cases s h with h | h | h | h <;> omega
  calc s.lmul8 * s.vlen / (8 * s.sew) ≤ 64 * s.vlen / (8 * s.sew) := Nat.div_le_div_right (Nat.mul_le_mul_right _ hl)
    _ ≤ 64 * s.vlen / 64 := Nat.div_le_div_left (by omega) (by omega)
    _ = s.vlen := by omega

/-- An aligned group ends inside the register file (R24, R105). -/
theorem group_end (m8 : Nat) (hm : m8 = 1 ∨ m8 = 2 ∨ m8 = 4 ∨ m8 = 8 ∨ m8 = 16 ∨ m8 = 32 ∨ m8 = 64) (r : RegNum)
    (ha : multipleOf m8 r = true) : r.toNat + regCount m8 ≤ 32 := by
  have hr : r.toNat < 32 := r.isLt
  unfold multipleOf at ha
  unfold regCount
  rcases hm with h | h | h | h | h | h | h <;> subst h <;> simp at ha ⊢ <;> omega

/-- What `Ready` says, part by part. -/
theorem ready_iff (s : State) :
    Ready s = true ↔ s.vs ≠ .off ∧ s.vtype.vill = false ∧ s.launchOk = true ∧ (s.vstart = 0 ∨ s.cfg.vstartTrap = false) := by
  simp [Ready, and_assoc]

theorem launchOk_iff (s : State) :
    s.launchOk = true ↔ s.elen ≤ s.vlen ∧ s.supported = true ∧ s.vl.toNat ≤ s.vlmax ∧ s.vstart.toNat < s.vlen := by
  simp [State.launchOk, and_assoc]

/-- The checks of R100 answer the next state given exactly when the state is ready and the shape legal. -/
theorem guarded_next (s : State) (word : Word32) (h : Shape) (t u : State) :
    s.guarded word h t = .next u ↔ Ready s = true ∧ h.legal s.elen = true ∧ u = t := by
  rw [ready_iff]
  unfold State.guarded raise
  split
  · simp_all
  · split
    · simp_all
    · split
      · simp_all
      · split
        · simp_all
        · split
          · simp_all
          · simp_all
            constructor
            · rintro rfl; exact ⟨by tauto, rfl⟩
            · rintro ⟨_, rfl⟩; rfl

/-- In a ready state a shape that is not legal raises (R331). -/
theorem guarded_ready (s : State) (word : Word32) (h : Shape) (t : State) (hr : Ready s = true) :
    s.guarded word h t = if h.legal s.elen then .next t else raise word := by
  rw [ready_iff] at hr
  obtain ⟨h1, h2, h3, h4⟩ := hr
  unfold State.guarded
  rw [if_neg h1, if_neg (by simp [h2]), if_neg (by simp [h3]), if_neg (by rintro ⟨a, b⟩; rcases h4 with h | h <;> simp_all)]
  cases h.legal s.elen <;> simp

/-- Whatever the checks answer that is not a next state is the one exception or the refusal of the launch state. -/
theorem guarded_cases (s : State) (word : Word32) (h : Shape) (t : State) :
    s.guarded word h t = .next t ∨ s.guarded word h t = raise word ∨ s.guarded word h t = .refused .launchState := by
  unfold State.guarded
  repeat' split
  all_goals simp

end Sys2Proof.Machine
end

