-- ==== Sys2Proof/Laws/Decode.lean ====
section
/-! SUPPORT. The fields of a word that `pack` writes, and a word as the `pack` of its fields (R65). -/

namespace Sys2Proof

/-- A word whose major opcode is OP-V is the `pack` of its fields. -/
theorem pack_fields (w : Word32) (h : opcodeOf w = 0x57#7) :
    pack (funct6Of w) (vmOf w) (vs2Of w) (argOf w) (funct3Of w) (vdOf w) = w := by
  unfold pack
  rw [← h]
  unfold funct6Of vmOf vs2Of argOf funct3Of vdOf opcodeOf
  ext i hi
  simp only [BitVec.getElem_append, BitVec.getElem_extractLsb', BitVec.getElem_ofBool]
  interval_cases i <;> simp [BitVec.getLsbD_eq_getElem]

variable (f6 : BitVec 6) (vm : Bool) (vs2 a vd : BitVec 5) (f3 : BitVec 3)

theorem opcodeOf_pack : opcodeOf (pack f6 vm vs2 a f3 vd) = 0x57#7 := by
  unfold opcodeOf pack
  ext i hi
  simp only [BitVec.getElem_extractLsb', BitVec.getLsbD_append]
  interval_cases i <;> simp

theorem vdOf_pack : vdOf (pack f6 vm vs2 a f3 vd) = vd := by
  unfold vdOf pack
  ext i hi
  simp only [BitVec.getElem_extractLsb', BitVec.getLsbD_append]
  interval_cases i <;> simp [BitVec.getLsbD_eq_getElem]

theorem funct3Of_pack : funct3Of (pack f6 vm vs2 a f3 vd) = f3 := by
  unfold funct3Of pack
  ext i hi
  simp only [BitVec.getElem_extractLsb', BitVec.getLsbD_append]
  interval_cases i <;> simp [BitVec.getLsbD_eq_getElem]

theorem argOf_pack : argOf (pack f6 vm vs2 a f3 vd) = a := by
  unfold argOf pack
  ext i hi
  simp only [BitVec.getElem_extractLsb', BitVec.getLsbD_append]
  interval_cases i <;> simp [BitVec.getLsbD_eq_getElem]

theorem vs2Of_pack : vs2Of (pack f6 vm vs2 a f3 vd) = vs2 := by
  unfold vs2Of pack
  ext i hi
  simp only [BitVec.getElem_extractLsb', BitVec.getLsbD_append]
  interval_cases i <;> simp [BitVec.getLsbD_eq_getElem]

theorem vmOf_pack : vmOf (pack f6 vm vs2 a f3 vd) = vm := by
  unfold vmOf pack
  simp only [BitVec.getLsbD_append]
  simp

theorem funct6Of_pack : funct6Of (pack f6 vm vs2 a f3 vd) = f6 := by
  unfold funct6Of pack
  ext i hi
  simp only [BitVec.getElem_extractLsb', BitVec.getLsbD_append]
  interval_cases i <;> simp [BitVec.getLsbD_eq_getElem]

/-- Decoding a packed word reads its fields back (R74). -/
theorem decodeWord_pack : decodeWord (pack f6 vm vs2 a f3 vd) =
    match f3.toNat with
    | 0b000 => decodeOPIVV f6.toNat vm vs2 a vd
    | 0b010 => decodeOPMVV f6.toNat vm vs2 a vd
    | 0b011 => decodeOPIVI f6.toNat vm vs2 a vd
    | 0b100 => decodeOPIVX f6.toNat vm vs2 a vd
    | 0b110 => decodeOPMVX f6.toNat vm vs2 a vd
    | _ => .outside := by
  unfold decodeWord
  rw [opcodeOf_pack, if_pos rfl, funct3Of_pack, funct6Of_pack, vmOf_pack, vs2Of_pack, argOf_pack, vdOf_pack]
  try rfl

end Sys2Proof
end

