-- ==== Sys2Proof/Laws/Legality.lean ====
section
/-! SUPPORT. The configuration checks as the common rules state them (R103, R105, R106, R108, R109) agree with the
constraints as the families spell them (R151, R171, R184, R228, R232, R297, R318, R320, R324). -/

namespace Sys2Proof.Machine

/-- The shape an instruction's form stands for at a configuration (R101). -/
def State.shapeOf (s : State) (f : Form) : Shape :=
  let n (r : RegNum) : Group := ⟨r.toNat, s.sew, s.lmul8⟩
  let w (r : RegNum) : Group := ⟨r.toNat, 2 * s.sew, 2 * s.lmul8⟩
  let two (g : RegNum → Group) : List Group := (f.vs2.map g).toList ++ (f.vs1.map n).toList
  match f.kind with
  | .single => ⟨n f.vd, false, two n, false, f.readsV0⟩
  | .mac => ⟨n f.vd, false, two n, true, f.readsV0⟩
  | .move => ⟨n f.vd, false, (f.vs1.map n).toList, false, f.readsV0⟩
  | .widen => ⟨w f.vd, false, two n, false, f.readsV0⟩
  | .widenMac => ⟨w f.vd, false, two n, true, f.readsV0⟩
  | .widenWide => ⟨w f.vd, false, two w, false, f.readsV0⟩
  | .narrow => ⟨n f.vd, false, two w, false, f.readsV0⟩
  | .ext k => ⟨n f.vd, false, (f.vs2.map fun r => ⟨r.toNat, s.sew / k, s.lmul8 / k⟩).toList, false, f.readsV0⟩
  | .mask => ⟨maskGroup f.vd.toNat, true, two n, false, f.readsV0⟩

/-- The constraints of a family on a form: `Legal` with the form in place of the instruction. -/
def legalForm (s : State) (f : Form) : Bool :=
  let m := s.lmul8
  (f.destOffMask && f.sourcesOffMask) &&
  match f.kind with
  | .single => multipleOf m f.vd && f.vs2.all (multipleOf m) && f.vs1.all (multipleOf m)
  | .mac => multipleOf m f.vd && f.vs2.all (multipleOf m) && f.vs1.all (multipleOf m)
  | .move => multipleOf m f.vd && f.vs1.all (multipleOf m)
  | .mask =>
    f.vs2.all (fun r => multipleOf m r && (f.vd == r || disjoint f.vd 8 r m)) &&
    f.vs1.all (fun r => multipleOf m r && (f.vd == r || disjoint f.vd 8 r m))
  | .widen =>
    2 * s.sew ≤ s.elen && m < 64 && multipleOf (2 * m) f.vd &&
    f.vs2.all (fun r => multipleOf m r && disjointOrTop f.vd (2 * m) r m) &&
    f.vs1.all (fun r => multipleOf m r && disjointOrTop f.vd (2 * m) r m)
  | .widenMac =>
    2 * s.sew ≤ s.elen && m < 64 && multipleOf (2 * m) f.vd &&
    f.vs2.all (fun r => multipleOf m r && disjoint f.vd (2 * m) r m) &&
    f.vs1.all (fun r => multipleOf m r && disjoint f.vd (2 * m) r m)
  | .widenWide =>
    2 * s.sew ≤ s.elen && m < 64 && multipleOf (2 * m) f.vd && f.vs2.all (multipleOf (2 * m)) &&
    f.vs1.all (fun r => multipleOf m r && disjointOrTop f.vd (2 * m) r m &&
      f.vs2.all fun r2 => disjoint r2 (2 * m) r m)
  | .narrow =>
    2 * s.sew ≤ s.elen && m < 64 && multipleOf m f.vd &&
    f.vs2.all (fun r2 => multipleOf (2 * m) r2 && (f.vd == r2 || disjoint f.vd m r2 (2 * m))) &&
    f.vs1.all (fun r => multipleOf m r && f.vs2.all fun r2 => disjoint r2 (2 * m) r m)
  | .ext k =>
    8 * k ≤ s.sew && k ≤ m && multipleOf m f.vd &&
    f.vs2.all (fun r => multipleOf (m / k) r && disjointOrTop f.vd m r (m / k))

theorem legal_eq_legalForm (s : State) (i : Instr) : Legal s i = legalForm s i.form := rfl

/-- A form an instruction of the table has: a move reads no mask and no `vs2`, every other form has a `vs2`, and an
extension is by 2, 4 or 8 and has no `vs1`. -/
def Form.inTable (f : Form) : Bool :=
  match f.kind with
  | .move => !f.readsV0 && f.vs2 == none
  | .ext k => (k == 2 || k == 4 || k == 8) && f.vs1 == none && f.vs2.isSome
  | _ => f.vs2.isSome

theorem form_inTable (i : Instr) : Form.inTable i.form = true := by cases i <;> rfl

theorem aligned_eq (r : RegNum) (e m : Nat) : Group.aligned ⟨r.toNat, e, m⟩ = multipleOf m r := rfl

theorem meets_eq (r r' : RegNum) (e e' m m' : Nat) :
    Group.meets ⟨r.toNat, e, m⟩ ⟨r'.toNat, e', m'⟩ = !disjoint r m r' m' := by
  have h : ∀ a b c d : Nat, (decide (a < d) && decide (c < b)) = !(decide (b ≤ c) || decide (d ≤ a)) := by
    intro a b c d
    by_cases h1 : a < d <;> by_cases h2 : c < b <;> simp [h1, h2, Nat.not_le.mpr, Nat.not_lt.mp]
  exact h _ _ _ _

theorem disjoint_comm (r r' : RegNum) (m m' : Nat) : disjoint r m r' m' = disjoint r' m' r m := by
  simp only [disjoint, Bool.or_comm]

/-- Only the group that starts at register 0 holds `v0`. -/
theorem meets_zero (r : RegNum) (e m : Nat) : Group.meets ⟨r.toNat, e, m⟩ ⟨0, 1, 8⟩ = (r == 0) := by
  have h : 1 ≤ max 1 (m / 8) := Nat.le_max_left 1 (m / 8)
  have hz : (r = 0) ↔ r.toNat = 0 := by rw [← BitVec.toNat_inj]; rfl
  show (decide (r.toNat < 0 + 1) && decide (0 < r.toNat + max 1 (m / 8))) = _
  rw [decide_eq_true (show 0 < r.toNat + max 1 (m / 8) by omega), Bool.and_true, Bool.eq_iff_iff, beq_iff_eq,
    decide_eq_true_eq, hz]
  omega

theorem zero_meets (r : RegNum) (e m : Nat) : Group.meets ⟨0, 1, 8⟩ ⟨r.toNat, e, m⟩ = (r == 0) := by
  rw [← meets_zero r e m]; exact Bool.and_comm _ _

/-- A wider destination may hold a source only in its highest registers (R106(c)). -/
theorem overlap_wide (vd r : RegNum) (e m d8 e' : Nat) (he : e < e') :
    (!Group.meets ⟨vd.toNat, e', d8⟩ ⟨r.toNat, e, m⟩ || Group.mayOverlap ⟨vd.toNat, e', d8⟩ ⟨r.toNat, e, m⟩) =
      disjointOrTop vd d8 r m := by
  have h1 : (e' == e) = false := by simp; omega
  have h2 : decide (e' < e) = false := by simp; omega
  simp [meets_eq, Group.mayOverlap, disjointOrTop, Group.count, regCount, h1, h2, he]

/-- A narrower destination may share only the first register of a source (R106(b)). -/
theorem overlap_narrow (vd r : RegNum) (e m d8 e' : Nat) (he : e < e') :
    (!Group.meets ⟨vd.toNat, e, d8⟩ ⟨r.toNat, e', m⟩ || Group.mayOverlap ⟨vd.toNat, e, d8⟩ ⟨r.toNat, e', m⟩) =
      (vd == r || disjoint vd d8 r m) := by
  have h1 : (e == e') = false := by simp; omega
  have h2 : decide (e' < e) = false := by simp; omega
  have h3 : (vd.toNat == r.toNat) = (vd == r) := by
    rw [Bool.eq_iff_iff]; simp [BitVec.toNat_inj]
  simp only [meets_eq, Group.mayOverlap, h1, h2, h3, he]
  simp [Bool.or_comm]

/-- At one width every overlap is allowed (R106(a)). -/
theorem overlap_same (d r e m d8 : Nat) : Group.mayOverlap ⟨d, e, d8⟩ ⟨r, e, m⟩ = true := by
  simp [Group.mayOverlap]

/-- Disjoint registers are in particular disjoint or at the top. -/
theorem disjointOrTop_of_disjoint (vd r : RegNum) (d8 m : Nat) (h : disjoint vd d8 r m = true) :
    disjointOrTop vd d8 r m = true := by simp [disjointOrTop, h]

theorem shapeOf_legal (s : State) (f : Form) (hs : s.supported = true) (ht : Form.inTable f = true) :
    (s.shapeOf f).legal s.elen = legalForm s f := by
  obtain ⟨kind, vd, vs2, vs1, rv⟩ := f
  have hse := sew_le_elen s hs
  have hs8 : 8 ≤ s.sew := by rcases sew_cases s hs with h | h | h | h <;> omega
  have hm : s.lmul8 < 64 ∨ s.lmul8 = 64 := by rcases lmul8_cases s hs with h | h | h | h | h | h | h <;> omega
  have hm1 : 1 ≤ s.lmul8 := by rcases lmul8_cases s hs with h | h | h | h | h | h | h <;> omega
  have hm2 : s.lmul8 < 64 ↔ 2 * s.lmul8 ≤ 64 := by rcases lmul8_cases s hs with h | h | h | h | h | h | h <;> omega
  unfold State.shapeOf legalForm
  generalize s.sew = sew at *
  generalize s.lmul8 = m at *
  generalize s.elen = elen at *
  have n1 : ∀ r, Group.inRange elen ⟨r, sew, m⟩ = true := by
    intro r; simp only [Group.inRange, Bool.and_eq_true, decide_eq_true_eq]; omega
  have n2 : ∀ r, Group.inRange elen ⟨r, 2 * sew, 2 * m⟩ = (decide (2 * sew ≤ elen) && decide (m < 64)) := by
    intro r; rw [Bool.eq_iff_iff]; simp [Group.inRange]; omega
  have e1 : (sew == 1) = false := by rw [beq_eq_false_iff_ne]; omega
  have e2 : (1 == sew) = false := by rw [beq_eq_false_iff_ne]; omega
  have e3 : (2 * sew == sew) = false := by rw [beq_eq_false_iff_ne]; omega
  have e4 : (sew == 2 * sew) = false := by rw [beq_eq_false_iff_ne]; omega
  have e5 : (2 * sew == 1) = false := by rw [beq_eq_false_iff_ne]; omega
  have e6 : (1 == 2 * sew) = false := by rw [beq_eq_false_iff_ne]; omega
  have o1 := fun vd r : RegNum => overlap_wide vd r sew m (2 * m) (2 * sew) (by omega)
  have o2 := fun vd r : RegNum => overlap_narrow vd r sew (2 * m) m (2 * sew) (by omega)
  have o3 := fun vd r : RegNum => overlap_narrow vd r 1 m 8 sew (by omega)
  simp only [meets_eq, Bool.not_not] at o1 o2 o3
  have z : maskGroup 0 = ⟨0, 1, 8⟩ := rfl
  have zd : ∀ r : Nat, maskGroup r = ⟨r, 1, 8⟩ := fun _ => rfl
  have m8 : ∀ r, multipleOf 8 r = true := fun _ => rfl
  have ds := fun (r : RegNum) => disjoint_comm r vd
  cases kind
  case ext k =>
    obtain ⟨⟨hk, hv⟩, h2⟩ : ((k = 2 ∨ k = 4 ∨ k = 8) ∧ vs1 = none) ∧ vs2.isSome = true := by
      simpa [Form.inTable, or_assoc] using ht
    obtain ⟨r2, rfl⟩ := Option.isSome_iff_exists.mp h2
    subst hv
    have n3 : ∀ r, Group.inRange elen ⟨r, sew / k, m / k⟩ = (decide (8 * k ≤ sew) && decide (k ≤ m)) := by
      intro r; rw [Bool.eq_iff_iff]; simp only [Group.inRange, Bool.and_eq_true, decide_eq_true_eq]
      rcases hk with h | h | h <;> subst h <;> omega
    have e7 : 8 * k ≤ sew → ¬ sew / k = 1 := by rcases hk with h | h | h <;> subst h <;> omega
    have e8 : sew / k < sew := by rcases hk with h | h | h <;> subst h <;> omega
    have o4 := fun vd r : RegNum => overlap_wide vd r (sew / k) (m / k) m sew e8
    have e9 : 8 * k ≤ sew → ¬ 1 = sew / k := by rcases hk with h | h | h <;> subst h <;> omega
    clear o1 o2 o3 n2 hk ht hm hm1 hm2 hs8 hse z zd m8 ds
    cases rv <;>
    simp [Shape.legal, Shape.inRange, Shape.aligned, Shape.overlapOk, Shape.destOffMask, Shape.oneWidth, Shape.reads,
      Form.destOffMask, Form.sourcesOffMask, Form.maskDest, maskGroup, n1, n3, aligned_eq, o4, meets_zero, zero_meets] <;> grind [disjoint_comm]
  case move =>
    obtain ⟨rfl, rfl⟩ : rv = false ∧ vs2 = none := by simpa [Form.inTable] using ht
    clear o1 o2 o3 n2 ht hm hm1 hm2 hs8 hse z zd m8 ds
    cases vs1 <;>
    simp [Shape.legal, Shape.inRange, Shape.aligned, Shape.overlapOk, Shape.destOffMask, Shape.oneWidth, Shape.reads,
      Form.destOffMask, Form.sourcesOffMask, Form.maskDest, maskGroup, n1, aligned_eq, overlap_same]
  case single =>
    obtain ⟨r2, rfl⟩ := Option.isSome_iff_exists.mp (show vs2.isSome = true from ht)
    clear ht hm hm1 hm2 hs8 hse z zd
    cases vs1 <;> cases rv <;>
    simp [Shape.legal, Shape.inRange, Shape.aligned, Shape.overlapOk, Shape.destOffMask, Shape.oneWidth, Shape.reads,
      Form.destOffMask, Form.sourcesOffMask, Form.maskDest, maskGroup, n1, e1, e2, aligned_eq, overlap_same, meets_zero, zero_meets] <;> grind [disjoint_comm]
  case mac =>
    obtain ⟨r2, rfl⟩ := Option.isSome_iff_exists.mp (show vs2.isSome = true from ht)
    clear ht hm hm1 hm2 hs8 hse z zd
    cases vs1 <;> cases rv <;>
    simp [Shape.legal, Shape.inRange, Shape.aligned, Shape.overlapOk, Shape.destOffMask, Shape.oneWidth, Shape.reads,
      Form.destOffMask, Form.sourcesOffMask, Form.maskDest, maskGroup, n1, e1, e2, aligned_eq, overlap_same, meets_zero, zero_meets] <;> grind [disjoint_comm]
  case mask =>
    obtain ⟨r2, rfl⟩ := Option.isSome_iff_exists.mp (show vs2.isSome = true from ht)
    clear ht hm hm1 hm2 hs8 hse z zd
    cases vs1 <;> cases rv <;>
    simp [Shape.legal, Shape.inRange, Shape.aligned, Shape.overlapOk, Shape.destOffMask, Shape.oneWidth, Shape.reads,
      Form.destOffMask, Form.sourcesOffMask, Form.maskDest, maskGroup, n1, e1, e2, aligned_eq, o3, m8, meets_eq, meets_zero, zero_meets] <;> grind [disjoint_comm]
  case widen =>
    obtain ⟨r2, rfl⟩ := Option.isSome_iff_exists.mp (show vs2.isSome = true from ht)
    clear ht hm hm1 hm2 hs8 hse z zd
    cases vs1 <;> cases rv <;>
    simp [Shape.legal, Shape.inRange, Shape.aligned, Shape.overlapOk, Shape.destOffMask, Shape.oneWidth, Shape.reads,
      Form.destOffMask, Form.sourcesOffMask, Form.maskDest, maskGroup, n1, n2, e1, e2, aligned_eq, o1, meets_eq, meets_zero, zero_meets] <;> grind [disjoint_comm]
  case widenMac =>
    obtain ⟨r2, rfl⟩ := Option.isSome_iff_exists.mp (show vs2.isSome = true from ht)
    clear ht hm hm1 hm2 hs8 hse z zd
    cases vs1 <;> cases rv <;>
    simp [Shape.legal, Shape.inRange, Shape.aligned, Shape.overlapOk, Shape.destOffMask, Shape.oneWidth, Shape.reads,
      Form.destOffMask, Form.sourcesOffMask, Form.maskDest, maskGroup, n1, n2, e1, e2, e3, e4, e5, e6, aligned_eq, o1, meets_eq, meets_zero, zero_meets] <;> grind [disjoint_comm]
  case widenWide =>
    obtain ⟨r2, rfl⟩ := Option.isSome_iff_exists.mp (show vs2.isSome = true from ht)
    clear ht hm hm1 hm2 hs8 hse z zd
    cases vs1 <;> cases rv <;>
    simp [Shape.legal, Shape.inRange, Shape.aligned, Shape.overlapOk, Shape.destOffMask, Shape.oneWidth, Shape.reads,
      Form.destOffMask, Form.sourcesOffMask, Form.maskDest, maskGroup, n1, n2, e1, e2, e3, e4, e5, e6, aligned_eq, overlap_same, o1, meets_eq, meets_zero, zero_meets] <;> grind [disjoint_comm]
  case narrow =>
    obtain ⟨r2, rfl⟩ := Option.isSome_iff_exists.mp (show vs2.isSome = true from ht)
    clear ht hm hm1 hm2 hs8 hse z zd
    cases vs1 <;> cases rv <;>
    simp [Shape.legal, Shape.inRange, Shape.aligned, Shape.overlapOk, Shape.destOffMask, Shape.oneWidth, Shape.reads,
      Form.destOffMask, Form.sourcesOffMask, Form.maskDest, maskGroup, n1, n2, e1, e2, e3, e4, e5, e6, aligned_eq, overlap_same, o2, meets_eq, meets_zero, zero_meets] <;> grind [disjoint_comm]

end Sys2Proof.Machine
end

