-- ==== Sys2Proof/Laws/State.lean ====
section
/-! SUPPORT. One lemma per field per update of State, true by unfolding, so that no later proof unfolds a record update. -/

namespace Sys2Proof.Machine

@[simp] theorem complete_cfg (s : State) (v : Vector VWord 32) : (s.complete v).cfg = s.cfg := rfl
@[simp] theorem complete_x (s : State) (v : Vector VWord 32) : (s.complete v).x = s.x := rfl
@[simp] theorem complete_pc (s : State) (v : Vector VWord 32) : (s.complete v).pc = s.nextPc := rfl
@[simp] theorem complete_v (s : State) (v : Vector VWord 32) : (s.complete v).v = v := rfl
@[simp] theorem complete_vtype (s : State) (v : Vector VWord 32) : (s.complete v).vtype = s.vtype := rfl
@[simp] theorem complete_vl (s : State) (v : Vector VWord 32) : (s.complete v).vl = s.vl := rfl
@[simp] theorem complete_vstart (s : State) (v : Vector VWord 32) : (s.complete v).vstart = 0 := rfl
@[simp] theorem complete_vxrm (s : State) (v : Vector VWord 32) : (s.complete v).vxrm = s.vxrm := rfl
@[simp] theorem complete_vxsat (s : State) (v : Vector VWord 32) : (s.complete v).vxsat = s.vxsat := rfl
@[simp] theorem complete_vs (s : State) (v : Vector VWord 32) : (s.complete v).vs = .dirty := rfl
@[simp] theorem complete_mem (s : State) (v : Vector VWord 32) : (s.complete v).mem = s.mem := rfl
@[simp] theorem complete_draws (s : State) (v : Vector VWord 32) : (s.complete v).draws = s.draws + 1 := rfl

@[simp] theorem storeWord_cfg (s : State) (a : Nat) (w : Word32) : (s.storeWord a w).cfg = s.cfg := rfl
@[simp] theorem storeWord_x (s : State) (a : Nat) (w : Word32) : (s.storeWord a w).x = s.x := rfl
@[simp] theorem storeWord_pc (s : State) (a : Nat) (w : Word32) : (s.storeWord a w).pc = s.pc := rfl
@[simp] theorem storeWord_v (s : State) (a : Nat) (w : Word32) : (s.storeWord a w).v = s.v := rfl
@[simp] theorem storeWord_vtype (s : State) (a : Nat) (w : Word32) : (s.storeWord a w).vtype = s.vtype := rfl
@[simp] theorem storeWord_vl (s : State) (a : Nat) (w : Word32) : (s.storeWord a w).vl = s.vl := rfl
@[simp] theorem storeWord_vstart (s : State) (a : Nat) (w : Word32) : (s.storeWord a w).vstart = s.vstart := rfl
@[simp] theorem storeWord_vxrm (s : State) (a : Nat) (w : Word32) : (s.storeWord a w).vxrm = s.vxrm := rfl
@[simp] theorem storeWord_vxsat (s : State) (a : Nat) (w : Word32) : (s.storeWord a w).vxsat = s.vxsat := rfl
@[simp] theorem storeWord_vs (s : State) (a : Nat) (w : Word32) : (s.storeWord a w).vs = s.vs := rfl
@[simp] theorem storeWord_mem (s : State) (a : Nat) (w : Word32) : (s.storeWord a w).mem = Memory.writeBytes s.mem a (bytesOfWord w) := rfl
@[simp] theorem storeWord_draws (s : State) (a : Nat) (w : Word32) : (s.storeWord a w).draws = s.draws := rfl

@[simp] theorem complete_xbits (s : State) (v : Vector VWord 32) : (s.complete v).xbits = s.xbits := rfl
@[simp] theorem complete_vlen (s : State) (v : Vector VWord 32) : (s.complete v).vlen = s.vlen := rfl
@[simp] theorem complete_elen (s : State) (v : Vector VWord 32) : (s.complete v).elen = s.elen := rfl
@[simp] theorem complete_sew (s : State) (v : Vector VWord 32) : (s.complete v).sew = s.sew := rfl
@[simp] theorem complete_lmul8 (s : State) (v : Vector VWord 32) : (s.complete v).lmul8 = s.lmul8 := rfl
@[simp] theorem complete_vlmax (s : State) (v : Vector VWord 32) : (s.complete v).vlmax = s.vlmax := rfl

@[simp] theorem storeWord_xbits (s : State) (a : Nat) (w : Word32) : (s.storeWord a w).xbits = s.xbits := rfl
@[simp] theorem storeWord_vlen (s : State) (a : Nat) (w : Word32) : (s.storeWord a w).vlen = s.vlen := rfl
@[simp] theorem storeWord_elen (s : State) (a : Nat) (w : Word32) : (s.storeWord a w).elen = s.elen := rfl
@[simp] theorem storeWord_sew (s : State) (a : Nat) (w : Word32) : (s.storeWord a w).sew = s.sew := rfl
@[simp] theorem storeWord_lmul8 (s : State) (a : Nat) (w : Word32) : (s.storeWord a w).lmul8 = s.lmul8 := rfl
@[simp] theorem storeWord_vlmax (s : State) (a : Nat) (w : Word32) : (s.storeWord a w).vlmax = s.vlmax := rfl
@[simp] theorem storeWord_pcAddr (s : State) (a : Nat) (w : Word32) : (s.storeWord a w).pcAddr = s.pcAddr := rfl
@[simp] theorem storeWord_nextPc (s : State) (a : Nat) (w : Word32) : (s.storeWord a w).nextPc = s.nextPc := rfl

@[simp] theorem complete_velem (s : State) (v : Vector VWord 32) (r w i : Nat) :
    (s.complete v).velem r w i = elemOf s.vlen v r w i := rfl
@[simp] theorem complete_vmask (s : State) (v : Vector VWord 32) (r i : Nat) : (s.complete v).vmask r i = maskOf v r i := rfl
@[simp] theorem complete_readByte (s : State) (v : Vector VWord 32) (a : Nat) : (s.complete v).readByte a = s.readByte a := rfl
@[simp] theorem complete_readX (s : State) (v : Vector VWord 32) (r : RegNum) : (s.complete v).readX r = s.readX r := rfl
@[simp] theorem complete_supported (s : State) (v : Vector VWord 32) : (s.complete v).supported = s.supported := rfl

theorem writeX_zero (s : State) (a : XWord) : s.writeX 0 a = s := rfl
theorem readX_zero (s : State) : s.readX 0 = 0 := rfl
@[simp] theorem writeX_cfg (s : State) (r : RegNum) (a : XWord) : (s.writeX r a).cfg = s.cfg := by
  unfold State.writeX; split <;> rfl
@[simp] theorem writeX_pc (s : State) (r : RegNum) (a : XWord) : (s.writeX r a).pc = s.pc := by
  unfold State.writeX; split <;> rfl
@[simp] theorem writeX_v (s : State) (r : RegNum) (a : XWord) : (s.writeX r a).v = s.v := by
  unfold State.writeX; split <;> rfl
@[simp] theorem writeX_vtype (s : State) (r : RegNum) (a : XWord) : (s.writeX r a).vtype = s.vtype := by
  unfold State.writeX; split <;> rfl
@[simp] theorem writeX_vl (s : State) (r : RegNum) (a : XWord) : (s.writeX r a).vl = s.vl := by
  unfold State.writeX; split <;> rfl
@[simp] theorem writeX_vstart (s : State) (r : RegNum) (a : XWord) : (s.writeX r a).vstart = s.vstart := by
  unfold State.writeX; split <;> rfl
@[simp] theorem writeX_vxrm (s : State) (r : RegNum) (a : XWord) : (s.writeX r a).vxrm = s.vxrm := by
  unfold State.writeX; split <;> rfl
@[simp] theorem writeX_vxsat (s : State) (r : RegNum) (a : XWord) : (s.writeX r a).vxsat = s.vxsat := by
  unfold State.writeX; split <;> rfl
@[simp] theorem writeX_vs (s : State) (r : RegNum) (a : XWord) : (s.writeX r a).vs = s.vs := by
  unfold State.writeX; split <;> rfl
@[simp] theorem writeX_mem (s : State) (r : RegNum) (a : XWord) : (s.writeX r a).mem = s.mem := by
  unfold State.writeX; split <;> rfl
@[simp] theorem writeX_draws (s : State) (r : RegNum) (a : XWord) : (s.writeX r a).draws = s.draws := by
  unfold State.writeX; split <;> rfl

end Sys2Proof.Machine
end

