-- ==== Sys2Proof/Laws/Vector.lean ====
section
/-! SUPPORT. Elements and mask bits of the vector registers: read after write, and what a write leaves alone (R25, R26). -/

namespace Sys2Proof.Machine

theorem regOf_setIfInBounds (v : Vector VWord 32) (k : Nat) (x : VWord) (r : Nat) :
    regOf (v.setIfInBounds k x) r = if r = k ∧ k < 32 then x else regOf v r := by
  unfold regOf
  rw [Vector.getElem?_setIfInBounds]
  by_cases h : k = r
  · subst h
    by_cases h2 : k < 32
    · simp [h2]
    · simp [h2]
  · have : ¬ (r = k ∧ k < 32) := fun hh => h hh.1.symm
    simp [h, this]

theorem getLsbD_setField (x : VWord) (off : Nat) {w : Nat} (val : BitVec w) (j : Nat) (hj : j < maxVlen) :
    (setField x off val).getLsbD j = if off ≤ j ∧ j < off + w then val.getLsbD (j - off) else x.getLsbD j := by
  unfold setField
  simp only [BitVec.getLsbD_or, BitVec.getLsbD_and, BitVec.getLsbD_not, BitVec.getLsbD_shiftLeft,
    BitVec.getLsbD_setWidth, BitVec.getLsbD_allOnes, hj, decide_true, Bool.true_and]
  by_cases h1 : off ≤ j
  · have e1 : ¬ j < off := by omega
    have e2 : j - off < maxVlen := by omega
    by_cases h2 : j < off + w
    · have e3 : j - off < w := by omega
      simp [h1, h2, e1, e2, e3]
    · have e3 : ¬ j - off < w := by omega
      simp [h1, h2, e1, e2, e3, BitVec.getLsbD_of_ge val (j - off) (by omega)]
  · have e1 : j < off := by omega
    simp [h1, e1]

theorem elemOf_getLsbD (vlen : Nat) (v : Vector VWord 32) (r w i b : Nat) :
    (elemOf vlen v r w i).getLsbD b =
      (decide (b < w) && (regOf v (r + i / (vlen / w))).getLsbD (w * (i % (vlen / w)) + b)) := by
  unfold elemOf
  rw [BitVec.getLsbD_extractLsb']

/-- The bits of element `i` stay inside the `vlen` bits of its register. -/
theorem elem_bits_le (vlen w i : Nat) (he : 0 < vlen / w) : w * (i % (vlen / w)) + w ≤ vlen := by
  have h1 : i % (vlen / w) + 1 ≤ vlen / w := Nat.mod_lt i he
  calc w * (i % (vlen / w)) + w = w * (i % (vlen / w) + 1) := by ring
    _ ≤ w * (vlen / w) := Nat.mul_le_mul_left w h1
    _ ≤ vlen := Nat.mul_div_le vlen w

theorem elemOf_setElem_same (vlen : Nat) (v : Vector VWord 32) (r w i : Nat) (val : BitVec w)
    (hv : vlen ≤ maxVlen) (he : 0 < vlen / w) (hr : r + i / (vlen / w) < 32) :
    elemOf vlen (setElem vlen v r w i val) r w i = val := by
  apply BitVec.eq_of_getLsbD_eq
  intro b hb
  have hle := elem_bits_le vlen w i he
  rw [elemOf_getLsbD]
  unfold setElem
  rw [regOf_setIfInBounds, if_pos ⟨rfl, hr⟩, getLsbD_setField _ _ _ _ (by omega), if_pos (by omega)]
  simp [hb]

theorem elemOf_setElem_ne (vlen : Nat) (v : Vector VWord 32) (r w i j : Nat) (val : BitVec w)
    (hv : vlen ≤ maxVlen) (he : 0 < vlen / w) (hij : i ≠ j) :
    elemOf vlen (setElem vlen v r w i val) r w j = elemOf vlen v r w j := by
  apply BitVec.eq_of_getLsbD_eq
  intro b hb
  have hle := elem_bits_le vlen w j he
  rw [elemOf_getLsbD, elemOf_getLsbD]
  unfold setElem
  rw [regOf_setIfInBounds]
  split
  · rename_i h
    have hq : j / (vlen / w) = i / (vlen / w) := by omega
    have hm : j % (vlen / w) ≠ i % (vlen / w) := by
      intro hm
      apply hij
      rw [← Nat.div_add_mod i (vlen / w), ← Nat.div_add_mod j (vlen / w), hq, hm]
    rw [getLsbD_setField _ _ _ _ (by omega), hq]
    rw [if_neg]
    rintro ⟨h1, h2⟩
    apply hm
    rcases Nat.lt_or_gt_of_ne hm with hlt | hgt
    · have : w * (j % (vlen / w) + 1) ≤ w * (i % (vlen / w)) := Nat.mul_le_mul_left w hlt
      rw [Nat.mul_add] at this; omega
    · have : w * (i % (vlen / w) + 1) ≤ w * (j % (vlen / w)) := Nat.mul_le_mul_left w hgt
      rw [Nat.mul_add] at this; omega
  · rfl

/-- A write of element `i` leaves every other register alone. -/
theorem regOf_setElem_ne (vlen : Nat) (v : Vector VWord 32) (r w i : Nat) (val : BitVec w) (k : Nat)
    (hk : k ≠ r + i / (vlen / w)) : regOf (setElem vlen v r w i val) k = regOf v k := by
  unfold setElem
  rw [regOf_setIfInBounds, if_neg (fun h => hk h.1)]

/-- A write of an element leaves the bits above `vlen` of every register alone. -/
theorem regOf_setElem_high (vlen : Nat) (v : Vector VWord 32) (r w i : Nat) (val : BitVec w) (k b : Nat)
    (he : 0 < vlen / w) (hb : vlen ≤ b) :
    (regOf (setElem vlen v r w i val) k).getLsbD b = (regOf v k).getLsbD b := by
  by_cases hbm : b < maxVlen
  · unfold setElem
    rw [regOf_setIfInBounds]
    split
    · rename_i h
      have hle := elem_bits_le vlen w i he
      rw [getLsbD_setField _ _ _ _ hbm, if_neg (by omega), h.1]
    · rfl
  · rw [BitVec.getLsbD_of_ge _ _ (by omega), BitVec.getLsbD_of_ge _ _ (by omega)]

theorem maskOf_setMask_same (v : Vector VWord 32) (r i : Nat) (b : Bool) (hi : i < maxVlen) (hr : r < 32) :
    maskOf (setMask v r i b) r i = b := by
  unfold maskOf setMask
  rw [regOf_setIfInBounds, if_pos ⟨rfl, hr⟩, getLsbD_setField _ _ _ _ hi, if_pos (by omega)]
  simp

theorem maskOf_setMask_ne (v : Vector VWord 32) (r i j : Nat) (b : Bool) (hij : i ≠ j) :
    maskOf (setMask v r i b) r j = maskOf v r j := by
  by_cases hj : j < maxVlen
  · unfold maskOf setMask
    rw [regOf_setIfInBounds]
    split
    · rw [getLsbD_setField _ _ _ _ hj, if_neg (by omega)]
    · rfl
  · unfold maskOf
    rw [BitVec.getLsbD_of_ge _ _ (by omega), BitVec.getLsbD_of_ge _ _ (by omega)]

theorem regOf_setMask_ne (v : Vector VWord 32) (r i : Nat) (b : Bool) (k : Nat) (hk : k ≠ r) :
    regOf (setMask v r i b) k = regOf v k := by
  unfold setMask
  rw [regOf_setIfInBounds, if_neg (fun h => hk h.1)]

theorem regOf_setMask_bit_ne (v : Vector VWord 32) (r i : Nat) (b : Bool) (k j : Nat) (hij : j ≠ i) :
    (regOf (setMask v r i b) k).getLsbD j = (regOf v k).getLsbD j := by
  by_cases hk : k = r
  · subst hk; exact maskOf_setMask_ne v k i j b (Ne.symm hij)
  · rw [regOf_setMask_ne v r i b k hk]

/-! ### The loops, once over -/

/-- Writing elements 0 to `n - 1` of a group: each of them reads as written. -/
theorem elemOf_foldl_setElem (vlen : Nat) (v : Vector VWord 32) (r w n : Nat) (g : Nat → BitVec w)
    (hv : vlen ≤ maxVlen) (he : 0 < vlen / w) (j : Nat) (hj : j < n) (hr : r + j / (vlen / w) < 32) :
    elemOf vlen ((List.range n).foldl (fun u i => setElem vlen u r w i (g i)) v) r w j = g j := by
  induction n with
  | zero => omega
  | succ n ih =>
    rw [List.range_succ, List.foldl_append, List.foldl_cons, List.foldl_nil]
    by_cases h : n = j
    · subst h; exact elemOf_setElem_same vlen _ r w n _ hv he hr
    · rw [elemOf_setElem_ne vlen _ r w n j _ hv he h]; exact ih (by omega)

/-- Writing elements 0 to `n - 1` of a group of `c` registers leaves every other register alone. -/
theorem regOf_foldl_setElem_ne (vlen : Nat) (v : Vector VWord 32) (r w n c : Nat) (g : Nat → BitVec w)
    (he : 0 < vlen / w) (hn : n ≤ c * (vlen / w)) (k : Nat) (hk : k < r ∨ r + c ≤ k) :
    regOf ((List.range n).foldl (fun u i => setElem vlen u r w i (g i)) v) k = regOf v k := by
  induction n with
  | zero => rfl
  | succ n ih =>
    rw [List.range_succ, List.foldl_append, List.foldl_cons, List.foldl_nil, regOf_setElem_ne, ih (by omega)]
    have : n / (vlen / w) < c := (Nat.div_lt_iff_lt_mul he).mpr (by omega)
    generalize n / (vlen / w) = q at this
    omega

theorem regOf_foldl_setElem_high (vlen : Nat) (v : Vector VWord 32) (r w n : Nat) (g : Nat → BitVec w)
    (he : 0 < vlen / w) (k b : Nat) (hb : vlen ≤ b) :
    (regOf ((List.range n).foldl (fun u i => setElem vlen u r w i (g i)) v) k).getLsbD b = (regOf v k).getLsbD b := by
  induction n with
  | zero => rfl
  | succ n ih =>
    rw [List.range_succ, List.foldl_append, List.foldl_cons, List.foldl_nil, regOf_setElem_high vlen _ _ _ _ _ _ _ he hb, ih]

theorem maskOf_foldl_setMask (v : Vector VWord 32) (r n : Nat) (g : Nat → Bool) (hn : n ≤ maxVlen) (hr : r < 32)
    (j : Nat) (hj : j < n) : maskOf ((List.range n).foldl (fun u i => setMask u r i (g i)) v) r j = g j := by
  induction n with
  | zero => omega
  | succ n ih =>
    rw [List.range_succ, List.foldl_append, List.foldl_cons, List.foldl_nil]
    by_cases h : n = j
    · subst h; exact maskOf_setMask_same _ r n _ (by omega) hr
    · rw [maskOf_setMask_ne _ r n j _ h]; exact ih (by omega) (by omega)

theorem regOf_foldl_setMask_ne (v : Vector VWord 32) (r n : Nat) (g : Nat → Bool) (k : Nat) (hk : k ≠ r) :
    regOf ((List.range n).foldl (fun u i => setMask u r i (g i)) v) k = regOf v k := by
  induction n with
  | zero => rfl
  | succ n ih => rw [List.range_succ, List.foldl_append, List.foldl_cons, List.foldl_nil, regOf_setMask_ne _ _ _ _ _ hk, ih]

theorem regOf_foldl_setMask_high (v : Vector VWord 32) (r n : Nat) (g : Nat → Bool) (k b : Nat) (hb : n ≤ b) :
    (regOf ((List.range n).foldl (fun u i => setMask u r i (g i)) v) k).getLsbD b = (regOf v k).getLsbD b := by
  induction n with
  | zero => rfl
  | succ n ih =>
    rw [List.range_succ, List.foldl_append, List.foldl_cons, List.foldl_nil, regOf_setMask_bit_ne _ _ _ _ _ _ (by omega),
      ih (by omega)]

end Sys2Proof.Machine
end

