-- ==== Sys2Proof/Laws/Loops.lean ====
section
/-! SUPPORT. What the element loops leave in the register file (R107 to R113, R116 to R119), said once. -/

namespace Sys2Proof.Machine

/-- R120: completing changes nothing but the vector file, `vstart`, `pc`, `mstatus.VS` and the draw counter. -/
theorem frame_complete (s : State) (v : Vector VWord 32) : Frame s (s.complete v) where
  cfg := rfl
  x := rfl
  vtype := rfl
  vl := rfl
  vxrm := rfl
  vxsat := rfl
  mem _ := rfl
  vstart := rfl
  pc := by
    show (s.toXlen (s.pc + 4)).toNat = _
    unfold State.toXlen
    rcases xbits_cases s with h | h <;> rw [h] <;> simp [BitVec.toNat_add] <;> omega
  vs := rfl
  draws := rfl

theorem drawElem_cases (s : State) (i : Nat) {w : Nat} (old : BitVec w) :
    s.drawElem i old = old ∨ s.drawElem i old = BitVec.allOnes w := by
  unfold State.drawElem; split <;> simp

theorem drawBit_cases (s : State) (i : Nat) (old : Bool) : s.drawBit i old = old ∨ s.drawBit i old = true := by
  unfold State.drawBit; split <;> simp

theorem drawTailBit_cases (s : State) (i : Nat) (old c : Bool) :
    s.drawTailBit i old c = old ∨ s.drawTailBit i old c = true ∨ (i < s.vlmax ∧ s.drawTailBit i old c = c) := by
  unfold State.drawTailBit
  split
  · simp
  · split <;> simp_all
  · simp

/-- The loops L-DATA and L-ALLDATA leave what R107 to R113 say. -/
theorem dataDest_writeData (s : State) (vd : RegNum) (w m8 : Nat) (active : Nat → Bool) (f : Nat → BitVec w)
    (hw : 0 < w) (hd : w ∣ s.vlen) (hend : vd.toNat + regCount m8 ≤ 32) (hvl : s.vl.toNat ≤ regCount m8 * s.vlen / w) :
    DataDest s (s.complete (s.writeData vd.toNat w m8 active f)) vd w m8 active f := by
  have hE : 0 < s.vlen / w := Nat.div_pos (Nat.le_of_dvd (vlen_pos s) hd) hw
  have hT : regCount m8 * s.vlen / w = regCount m8 * (s.vlen / w) := Nat.mul_div_assoc _ hd
  have hTE : s.tailEnd w m8 = regCount m8 * (s.vlen / w) := by rw [← hT]; rfl
  have hin : ∀ e, e < regCount m8 * s.vlen / w → s.vstart.toNat < s.vl.toNat →
      (s.complete (s.writeData vd.toNat w m8 active f)).velem vd.toNat w e = s.dataElem vd.toNat w active f e := by
    intro e he hne
    rw [complete_velem]
    unfold State.writeData
    rw [if_pos hne]
    have hq : e / (s.vlen / w) < regCount m8 := (Nat.div_lt_iff_lt_mul hE).mpr (by omega)
    refine elemOf_foldl_setElem s.vlen s.v vd.toNat w _ _ (vlen_le s) hE e (by omega) ?_
    generalize e / (s.vlen / w) = q at hq
    omega
  have hskip : ¬ s.vstart.toNat < s.vl.toNat → s.complete (s.writeData vd.toNat w m8 active f) = s.complete s.v := by
    intro h; unfold State.writeData; rw [if_neg h]
  refine ⟨?_, ?_, ?_, ?_, ?_, ?_, ?_⟩
  · intro r hr
    simp only [complete_v, State.writeData]
    split
    · exact regOf_foldl_setElem_ne s.vlen s.v vd.toNat w _ (regCount m8) _ hE (by omega) r hr
    · rfl
  · intro r b hb
    simp only [complete_v, State.writeData]
    split
    · exact regOf_foldl_setElem_high s.vlen s.v vd.toNat w _ _ hE r b hb
    · rfl
  · intro h
    rw [hskip (by omega)]; rfl
  · intro e he het
    by_cases hne : s.vstart.toNat < s.vl.toNat
    · rw [hin e het hne]; simp [State.dataElem, he]
    · rw [hskip hne]; rfl
  · intro e h1 h2 ha
    rw [hin e (by omega) (by omega)]
    simp only [State.dataElem]
    rw [if_neg (by omega), if_pos h2, if_pos ha]
  · intro e h1 h2 ha
    rw [hin e (by omega) (by omega)]
    simp only [State.dataElem]
    rw [if_neg (by omega), if_pos h2, if_neg (by simp [ha])]
    split
    · rename_i hm
      rcases drawElem_cases s e (s.velem vd.toNat w e) with h | h
      · exact .inl h
      · exact .inr ⟨hm, h⟩
    · exact .inl rfl
  · intro e h1 het
    by_cases hne : s.vstart.toNat < s.vl.toNat
    · rw [hin e het hne]
      simp only [State.dataElem]
      rw [if_neg (by omega), if_neg (by omega)]
      split
      · rename_i hm
        rcases drawElem_cases s e (s.velem vd.toNat w e) with h | h
        · exact .inl h
        · exact .inr ⟨hm, h⟩
      · exact .inl rfl
    · rw [hskip hne]; exact .inl rfl

/-- The loops L-MASK and L-ALLMASK leave what R107, R111 to R113 say. -/
theorem maskDest_writeMask (s : State) (vd : RegNum) (active f : Nat → Bool) (hvl : s.vl.toNat ≤ s.vlen) :
    MaskDest s (s.complete (s.writeMask vd.toNat active f)) vd active f := by
  have hin : ∀ e, e < s.vlen → s.vstart.toNat < s.vl.toNat →
      (s.complete (s.writeMask vd.toNat active f)).vmask vd.toNat e = s.maskElem vd.toNat active f e := by
    intro e he hne
    rw [complete_vmask]
    unfold State.writeMask
    rw [if_pos hne]
    exact maskOf_foldl_setMask s.v vd.toNat _ _ (vlen_le s) vd.isLt e he
  have hskip : ¬ s.vstart.toNat < s.vl.toNat → s.complete (s.writeMask vd.toNat active f) = s.complete s.v := by
    intro h; unfold State.writeMask; rw [if_neg h]
  refine ⟨?_, ?_, ?_, ?_, ?_, ?_, ?_⟩
  · intro r hr
    simp only [complete_v, State.writeMask]
    split
    · exact regOf_foldl_setMask_ne s.v vd.toNat _ _ r hr
    · rfl
  · intro r b hb
    simp only [complete_v, State.writeMask]
    split
    · exact regOf_foldl_setMask_high s.v vd.toNat _ _ r b hb
    · rfl
  · intro h
    rw [hskip (by omega)]; rfl
  · intro e he
    by_cases hne : s.vstart.toNat < s.vl.toNat
    · rw [hin e (by omega) hne]; simp [State.maskElem, he]
    · rw [hskip hne]; rfl
  · intro e h1 h2 ha
    rw [hin e (by omega) (by omega)]
    simp only [State.maskElem]
    rw [if_neg (by omega), if_pos h2, if_pos ha]
  · intro e h1 h2 ha
    rw [hin e (by omega) (by omega)]
    simp only [State.maskElem]
    rw [if_neg (by omega), if_pos h2, if_neg (by simp [ha])]
    split
    · rename_i hm
      rcases drawBit_cases s e (s.vmask vd.toNat e) with h | h
      · exact .inl h
      · exact .inr ⟨hm, h⟩
    · exact .inl rfl
  · intro e h1 het
    by_cases hne : s.vstart.toNat < s.vl.toNat
    · rw [hin e het hne]
      simp only [State.maskElem]
      rw [if_neg (by omega), if_neg (by omega)]
      exact drawTailBit_cases s e _ _
    · rw [hskip hne]; exact .inl rfl

end Sys2Proof.Machine
end

