-- ==== Sys2Proof/Laws/Exec.lean ====
section
/-! SUPPORT. Said once: everything `exec` can do (R100). The checks on the shape of the instruction's form, then a state
that differs only as completion says. -/

namespace Sys2Proof.Machine

/-- Every meaning is the common checks, then completion with some register file. -/
theorem exec_guarded (i : Instr) (s : State) :
    ∃ v, exec i s = s.guarded (encode i) (s.shapeOf i.form) (s.complete v) := by
  cases i <;> exact ⟨_, rfl⟩

/-- Under R41 the checks of the shape are the family's constraints. -/
theorem shapeOf_legal_instr (i : Instr) (s : State) (h : s.launchOk = true) :
    (s.shapeOf i.form).legal s.elen = Legal s i :=
  shapeOf_legal s i.form ((launchOk_iff s).mp h).2.1 (form_inTable i)

/-- In a ready state, checks that pass answer the completed state. -/
theorem guarded_legal (i : Instr) (s : State) (t : State) (hr : Ready s = true) (hl : Legal s i = true) :
    s.guarded (encode i) (s.shapeOf i.form) t = .next t := by
  rw [guarded_ready s _ _ _ hr, shapeOf_legal_instr i s ((ready_iff s).mp hr).2.2.1, hl]; rfl

end Sys2Proof.Machine
end

