-- ==== Sys2Proof/Laws/Memory.lean ====
section
/-! SUPPORT. The program text: read after write, and every operation keeps the canonical form. -/

namespace Sys2Proof.Machine

theorem Memory.read_write (m : List Host.Cell) (a b : Nat) (x : Byte) :
    Memory.read (Memory.write m a x) b = if b = a then some x else Memory.read m b := by
  induction m with
  | nil => simp [Memory.write, Memory.read]
  | cons c rest ih =>
    obtain ⟨k, y⟩ := c
    simp only [Memory.write]
    split
    · simp [Memory.read]
    · split
      · subst_vars; simp only [Memory.read]; split <;> rfl
      · simp only [Memory.read, ih]
        split
        · subst_vars
          rw [if_neg (by omega)]
        · rfl

/-- The address of the first entry is above `a`, where there is one. -/
def Memory.above (a : Nat) : List Host.Cell → Bool
  | [] => true
  | (k, _) :: _ => a < k

theorem Memory.wf_cons (k : Nat) (y : Byte) (rest : List Host.Cell) :
    Memory.wf ((k, y) :: rest) = (Memory.above k rest && Memory.wf rest) := by
  cases rest with
  | nil => rfl
  | cons d _ => rfl

theorem Memory.above_write (k : Nat) (m : List Host.Cell) (a : Nat) (x : Byte) (ha : k < a)
    (h : Memory.above k m = true) : Memory.above k (Memory.write m a x) = true := by
  cases m with
  | nil => simpa [Memory.write, Memory.above] using ha
  | cons c rest =>
    obtain ⟨j, y⟩ := c
    simp only [Memory.above, decide_eq_true_eq] at h
    simp only [Memory.write]
    split
    · simpa [Memory.above] using ha
    · split <;> simp [Memory.above, *]

theorem Memory.wf_write (m : List Host.Cell) (a : Nat) (x : Byte) (h : Memory.wf m = true) :
    Memory.wf (Memory.write m a x) = true := by
  induction m with
  | nil => rfl
  | cons c rest ih =>
    obtain ⟨k, y⟩ := c
    rw [Memory.wf_cons, Bool.and_eq_true] at h
    simp only [Memory.write]
    split
    · rw [Memory.wf_cons, Memory.wf_cons, h.1, h.2]; simp [Memory.above, *]
    · split
      · subst_vars; rw [Memory.wf_cons]; simp [*]
      · rw [Memory.wf_cons, ih h.2, Memory.above_write k rest a x (by omega) h.1]; rfl

theorem Memory.wf_writeBytes (bs : List Byte) (m : List Host.Cell) (a : Nat) (h : Memory.wf m = true) :
    Memory.wf (Memory.writeBytes m a bs) = true := by
  induction bs generalizing m a with
  | nil => exact h
  | cons b bs ih => exact ih _ _ (Memory.wf_write m a b h)

theorem storeWord_text (s : State) (a : Nat) (w : Word32) (h : Memory.wf s.mem = true) :
    Memory.wf (s.storeWord a w).mem = true := Memory.wf_writeBytes _ _ _ h

theorem loadText_text (ws : List Word32) (s : State) (base : Nat) (h : Memory.wf s.mem = true) :
    Memory.wf (s.loadText base ws).mem = true := by
  induction ws generalizing s base with
  | nil => exact h
  | cons w ws ih => exact ih _ _ (storeWord_text s base w h)

theorem reset_text : Memory.wf State.reset.mem = true := rfl

/-- The bytes of a placed word are the word's, lowest address first, and no other byte changes. -/
theorem readByte_storeWord (s : State) (a b : Nat) (w : Word32) :
    (s.storeWord a w).readByte b =
      if b = a + 3 then some (w.extractLsb' 24 8) else if b = a + 2 then some (w.extractLsb' 16 8)
      else if b = a + 1 then some (w.extractLsb' 8 8) else if b = a then some (w.extractLsb' 0 8) else s.readByte b := by
  simp only [State.readByte, State.storeWord, bytesOfWord, Memory.writeBytes, Memory.read_write]

theorem wordOfBytes_bytes (w : Word32) :
    wordOfBytes (w.extractLsb' 0 8) (w.extractLsb' 8 8) (w.extractLsb' 16 8) (w.extractLsb' 24 8) = w := by
  unfold wordOfBytes
  ext i hi
  simp only [BitVec.getElem_append, BitVec.getElem_extractLsb']
  rw [← BitVec.getLsbD_eq_getElem hi]
  split
  · simp
  · split
    · congr 1; omega
    · split <;> (congr 1; omega)

/-- A word placed at an aligned `pc` is the word fetched there (R52). -/
theorem fetch_storeWord (s : State) (w : Word32) (hp : s.pcAddr % 4 = 0) :
    (s.storeWord s.pcAddr w).fetch = .ok w := by
  have e : (s.storeWord s.pcAddr w).pcAddr = s.pcAddr := rfl
  simp [State.fetch, e, hp, readByte_storeWord, wordOfBytes_bytes]

end Sys2Proof.Machine
end

