-- ==== Sys2Proof/Laws/Results.lean ====
section
/-! SUPPORT. Each run at a legal configuration of a ready state answers a next state with the frame of R120 and the
destination of R107 to R113. -/

namespace Sys2Proof.Machine

/-- The group of a data destination fits the register file and holds `vl` elements (R24, R30, R112). -/
theorem dest_fits (s : State) (hc : s.launchOk = true) (vd : RegNum) (w m8 : Nat)
    (hw : w = 8 ∨ w = 16 ∨ w = 32 ∨ w = 64) (hwe : w ≤ s.elen)
    (hm : m8 = 1 ∨ m8 = 2 ∨ m8 = 4 ∨ m8 = 8 ∨ m8 = 16 ∨ m8 = 32 ∨ m8 = 64) (ha : multipleOf m8 vd = true)
    (hx : m8 * s.vlen / (8 * w) = s.vlmax) :
    0 < w ∧ w ∣ s.vlen ∧ vd.toNat + regCount m8 ≤ 32 ∧ s.vl.toNat ≤ regCount m8 * s.vlen / w := by
  obtain ⟨h1, h2, h3, h4⟩ := (launchOk_iff s).mp hc
  refine ⟨by omega, width_dvd_vlen s w hw (hwe.trans h1), group_end m8 hm vd ha, ?_⟩
  refine h3.trans (hx ▸ vlmax_le_tailEnd m8 s.vlen w ?_)
  omega

theorem single_fits (s : State) (hc : s.launchOk = true) (vd : RegNum) (ha : multipleOf s.lmul8 vd = true) :
    0 < s.sew ∧ s.sew ∣ s.vlen ∧ vd.toNat + regCount s.lmul8 ≤ 32 ∧ s.vl.toNat ≤ regCount s.lmul8 * s.vlen / s.sew :=
  have h := ((launchOk_iff s).mp hc).2.1
  dest_fits s hc vd s.sew s.lmul8 (sew_cases s h) (sew_le_elen s h) (lmul8_cases s h) ha rfl

theorem wide_fits (s : State) (hc : s.launchOk = true) (vd : RegNum) (he : 2 * s.sew ≤ s.elen) (hm : s.lmul8 < 64)
    (ha : multipleOf (2 * s.lmul8) vd = true) :
    0 < 2 * s.sew ∧ 2 * s.sew ∣ s.vlen ∧ vd.toNat + regCount (2 * s.lmul8) ≤ 32 ∧
      s.vl.toNat ≤ regCount (2 * s.lmul8) * s.vlen / (2 * s.sew) := by
  have h := ((launchOk_iff s).mp hc).2.1
  have hs := sew_cases s h
  have hl := lmul8_cases s h
  have hle : s.elen ≤ 64 := by rcases elen_cases s with h | h | h | h <;> omega
  exact dest_fits s hc vd (2 * s.sew) (2 * s.lmul8) (by omega) he (by omega) ha (vlmax_double s)

/-- The destination's alignment, from the constraints of a single-width destination. -/
theorem legal_single (s : State) (i : Instr) (hl : Legal s i = true)
    (hk : i.form.kind = .single ∨ i.form.kind = .mac ∨ i.form.kind = .move ∨ i.form.kind = .narrow ∨
      ∃ k, i.form.kind = .ext k) : multipleOf s.lmul8 i.form.vd = true := by
  unfold Legal at hl
  rcases hk with h | h | h | h | ⟨k, h⟩ <;> simp only [h, Bool.and_eq_true] at hl <;> tauto

/-- The destination's width and alignment, from the constraints of a widening one. -/
theorem legal_wide (s : State) (i : Instr) (hl : Legal s i = true)
    (hk : i.form.kind = .widen ∨ i.form.kind = .widenMac ∨ i.form.kind = .widenWide) :
    2 * s.sew ≤ s.elen ∧ s.lmul8 < 64 ∧ multipleOf (2 * s.lmul8) i.form.vd = true := by
  unfold Legal at hl
  rcases hk with h | h | h <;> simp only [h, Bool.and_eq_true, decide_eq_true_eq] at hl <;> tauto

/-- A run with a `SEW`-wide destination. -/
theorem single_result (i : Instr) (s : State) (active : Nat → Bool) (f : Nat → BitVec s.sew)
    (hr : Ready s = true) (hl : Legal s i = true)
    (hk : i.form.kind = .single ∨ i.form.kind = .mac ∨ i.form.kind = .move ∨ i.form.kind = .narrow ∨
      ∃ k, i.form.kind = .ext k) :
    ∃ t, s.guarded (encode i) (s.shapeOf i.form)
        (s.complete (s.writeData i.form.vd.toNat s.sew s.lmul8 active f)) = .next t ∧
      Frame s t ∧ DataDest s t i.form.vd s.sew s.lmul8 active f := by
  obtain ⟨h1, h2, h3, h4⟩ := single_fits s ((ready_iff s).mp hr).2.2.1 _ (legal_single s i hl hk)
  exact ⟨_, guarded_legal i s _ hr hl, frame_complete s _, dataDest_writeData s _ _ _ _ _ h1 h2 h3 h4⟩

/-- A run with a `2*SEW`-wide destination. -/
theorem wide_result (i : Instr) (s : State) (active : Nat → Bool) (f : Nat → BitVec (2 * s.sew))
    (hr : Ready s = true) (hl : Legal s i = true)
    (hk : i.form.kind = .widen ∨ i.form.kind = .widenMac ∨ i.form.kind = .widenWide) :
    ∃ t, s.guarded (encode i) (s.shapeOf i.form)
        (s.complete (s.writeData i.form.vd.toNat (2 * s.sew) (2 * s.lmul8) active f)) = .next t ∧
      Frame s t ∧ DataDest s t i.form.vd (2 * s.sew) (2 * s.lmul8) active f := by
  obtain ⟨ha, hb, hc⟩ := legal_wide s i hl hk
  obtain ⟨h1, h2, h3, h4⟩ := wide_fits s ((ready_iff s).mp hr).2.2.1 _ ha hb hc
  exact ⟨_, guarded_legal i s _ hr hl, frame_complete s _, dataDest_writeData s _ _ _ _ _ h1 h2 h3 h4⟩

/-- A run with a mask destination. -/
theorem mask_result (i : Instr) (s : State) (active f : Nat → Bool) (hr : Ready s = true) (hl : Legal s i = true) :
    ∃ t, s.guarded (encode i) (s.shapeOf i.form) (s.complete (s.writeMask i.form.vd.toNat active f)) = .next t ∧
      Frame s t ∧ MaskDest s t i.form.vd active f := by
  obtain ⟨-, h2, h3, -⟩ := (launchOk_iff s).mp ((ready_iff s).mp hr).2.2.1
  exact ⟨_, guarded_legal i s _ hr hl, frame_complete s _,
    maskDest_writeMask s _ _ _ (h3.trans (vlmax_le_vlen s h2))⟩

end Sys2Proof.Machine
end

