-- ==== Sys2Proof/Tests/Slice0.lean ====
section
/-! SUPPORT. Tests with expected results from the spec: the words and the worked results printed in the family rules
(41_add_sub.md to 48_merge_move.md) and in 95_test_vectors.md, then a witness for the hypotheses of every statement. -/

open Sys2Proof Sys2Proof.Machine Sys2Proof.Statements

namespace Sys2Proof.Tests

-- One theorem after the other: the kernel runs below would else start a thread each.
set_option Elab.async false

/-! ### Decoding: the words the family rules print, unmasked and masked -/

/-- Every word of the list decodes to the instruction beside it. -/
def decodesTo (l : List (Nat × Instr)) : Bool := l.all fun p => decodeTableWord 32 p.1 == some p.2

theorem test_decode_AddSub_1 : decodesTo
  [(0x022180D7, .vaddVV 1 2 3 true), (0x002180D7, .vaddVV 1 2 3 false), (0x022540D7, .vaddVX 1 2 10 true),
   (0x002540D7, .vaddVX 1 2 10 false), (0x022FB0D7, .vaddVI 1 2 31 true), (0x002FB0D7, .vaddVI 1 2 31 false),
   (0x0A2180D7, .vsubVV 1 2 3 true), (0x082180D7, .vsubVV 1 2 3 false), (0x0A2540D7, .vsubVX 1 2 10 true),
   (0x082540D7, .vsubVX 1 2 10 false), (0x0E2540D7, .vrsubVX 1 2 10 true), (0x0C2540D7, .vrsubVX 1 2 10 false),
   (0x0E2030D7, .vrsubVI 1 2 0 true), (0x0C2030D7, .vrsubVI 1 2 0 false), (0xC221A257, .vwadduVV 4 2 3 true),
   (0xC021A257, .vwadduVV 4 2 3 false), (0xC2256257, .vwadduVX 4 2 10 true), (0xC0256257, .vwadduVX 4 2 10 false),
   (0xCA21A257, .vwsubuVV 4 2 3 true), (0xC821A257, .vwsubuVV 4 2 3 false), (0xCA256257, .vwsubuVX 4 2 10 true),
   (0xC8256257, .vwsubuVX 4 2 10 false), (0xC621A257, .vwaddVV 4 2 3 true), (0xC421A257, .vwaddVV 4 2 3 false),
   (0xC6256257, .vwaddVX 4 2 10 true), (0xC4256257, .vwaddVX 4 2 10 false), (0xCE21A257, .vwsubVV 4 2 3 true),
   (0xCC21A257, .vwsubVV 4 2 3 false), (0xCE256257, .vwsubVX 4 2 10 true), (0xCC256257, .vwsubVX 4 2 10 false),
   (0xD261A257, .vwadduWV 4 6 3 true), (0xD061A257, .vwadduWV 4 6 3 false), (0xD2656257, .vwadduWX 4 6 10 true),
   (0xD0656257, .vwadduWX 4 6 10 false), (0xDA61A257, .vwsubuWV 4 6 3 true), (0xD861A257, .vwsubuWV 4 6 3 false),
   (0xDA656257, .vwsubuWX 4 6 10 true), (0xD8656257, .vwsubuWX 4 6 10 false), (0xD661A257, .vwaddWV 4 6 3 true),
   (0xD461A257, .vwaddWV 4 6 3 false)] = true := by
  decide +kernel

theorem test_decode_AddSub_2 : decodesTo
  [(0xD6656257, .vwaddWX 4 6 10 true), (0xD4656257, .vwaddWX 4 6 10 false), (0xDE61A257, .vwsubWV 4 6 3 true),
   (0xDC61A257, .vwsubWV 4 6 3 false), (0xDE656257, .vwsubWX 4 6 10 true), (0xDC656257, .vwsubWX 4 6 10 false)] = true := by
  decide +kernel

theorem test_decode_Extension : decodesTo
  [(0x4A232257, .vzextVF2 4 2 true), (0x48232257, .vzextVF2 4 2 false), (0x4A23A257, .vsextVF2 4 2 true),
   (0x4823A257, .vsextVF2 4 2 false), (0x4A222257, .vzextVF4 4 2 true), (0x48222257, .vzextVF4 4 2 false),
   (0x4A22A257, .vsextVF4 4 2 true), (0x4822A257, .vsextVF4 4 2 false), (0x4A212257, .vzextVF8 4 2 true),
   (0x48212257, .vzextVF8 4 2 false), (0x4A21A257, .vsextVF8 4 2 true), (0x4821A257, .vsextVF8 4 2 false)] = true := by
  decide +kernel

theorem test_decode_Carry : decodesTo
  [(0x402180D7, .vadcVVM 1 2 3), (0x402540D7, .vadcVXM 1 2 10), (0x402FB0D7, .vadcVIM 1 2 31),
   (0x442180D7, .vmadcVVM 1 2 3), (0x442540D7, .vmadcVXM 1 2 10), (0x442FB0D7, .vmadcVIM 1 2 31),
   (0x462180D7, .vmadcVV 1 2 3), (0x462540D7, .vmadcVX 1 2 10), (0x462FB0D7, .vmadcVI 1 2 31),
   (0x482180D7, .vsbcVVM 1 2 3), (0x482540D7, .vsbcVXM 1 2 10), (0x4C2180D7, .vmsbcVVM 1 2 3),
   (0x4C2540D7, .vmsbcVXM 1 2 10), (0x4E2180D7, .vmsbcVV 1 2 3), (0x4E2540D7, .vmsbcVX 1 2 10)] = true := by
  decide +kernel

theorem test_decode_LogicalShift_1 : decodesTo
  [(0x262180D7, .vandVV 1 2 3 true), (0x242180D7, .vandVV 1 2 3 false), (0x262540D7, .vandVX 1 2 10 true),
   (0x242540D7, .vandVX 1 2 10 false), (0x262FB0D7, .vandVI 1 2 31 true), (0x242FB0D7, .vandVI 1 2 31 false),
   (0x2A2180D7, .vorVV 1 2 3 true), (0x282180D7, .vorVV 1 2 3 false), (0x2A2540D7, .vorVX 1 2 10 true),
   (0x282540D7, .vorVX 1 2 10 false), (0x2A2FB0D7, .vorVI 1 2 31 true), (0x282FB0D7, .vorVI 1 2 31 false),
   (0x2E2180D7, .vxorVV 1 2 3 true), (0x2C2180D7, .vxorVV 1 2 3 false), (0x2E2540D7, .vxorVX 1 2 10 true),
   (0x2C2540D7, .vxorVX 1 2 10 false), (0x2E2FB0D7, .vxorVI 1 2 31 true), (0x2C2FB0D7, .vxorVI 1 2 31 false),
   (0x962180D7, .vsllVV 1 2 3 true), (0x942180D7, .vsllVV 1 2 3 false), (0x962540D7, .vsllVX 1 2 10 true),
   (0x942540D7, .vsllVX 1 2 10 false), (0x9621B0D7, .vsllVI 1 2 3 true), (0x9421B0D7, .vsllVI 1 2 3 false),
   (0xA22180D7, .vsrlVV 1 2 3 true), (0xA02180D7, .vsrlVV 1 2 3 false), (0xA22540D7, .vsrlVX 1 2 10 true),
   (0xA02540D7, .vsrlVX 1 2 10 false), (0xA221B0D7, .vsrlVI 1 2 3 true), (0xA021B0D7, .vsrlVI 1 2 3 false),
   (0xA62180D7, .vsraVV 1 2 3 true), (0xA42180D7, .vsraVV 1 2 3 false), (0xA62540D7, .vsraVX 1 2 10 true),
   (0xA42540D7, .vsraVX 1 2 10 false), (0xA621B0D7, .vsraVI 1 2 3 true), (0xA421B0D7, .vsraVI 1 2 3 false),
   (0xB22200D7, .vnsrlWV 1 2 4 true), (0xB02200D7, .vnsrlWV 1 2 4 false), (0xB22540D7, .vnsrlWX 1 2 10 true),
   (0xB02540D7, .vnsrlWX 1 2 10 false)] = true := by
  decide +kernel

theorem test_decode_LogicalShift_2 : decodesTo
  [(0xB22230D7, .vnsrlWI 1 2 4 true), (0xB02230D7, .vnsrlWI 1 2 4 false), (0xB62200D7, .vnsraWV 1 2 4 true),
   (0xB42200D7, .vnsraWV 1 2 4 false), (0xB62540D7, .vnsraWX 1 2 10 true), (0xB42540D7, .vnsraWX 1 2 10 false),
   (0xB62230D7, .vnsraWI 1 2 4 true), (0xB42230D7, .vnsraWI 1 2 4 false)] = true := by
  decide +kernel

theorem test_decode_Compare : decodesTo
  [(0x622180D7, .vmseqVV 1 2 3 true), (0x602180D7, .vmseqVV 1 2 3 false), (0x622540D7, .vmseqVX 1 2 10 true),
   (0x602540D7, .vmseqVX 1 2 10 false), (0x6222B0D7, .vmseqVI 1 2 5 true), (0x6022B0D7, .vmseqVI 1 2 5 false),
   (0x662180D7, .vmsneVV 1 2 3 true), (0x642180D7, .vmsneVV 1 2 3 false), (0x662540D7, .vmsneVX 1 2 10 true),
   (0x642540D7, .vmsneVX 1 2 10 false), (0x6622B0D7, .vmsneVI 1 2 5 true), (0x6422B0D7, .vmsneVI 1 2 5 false),
   (0x6A2180D7, .vmsltuVV 1 2 3 true), (0x682180D7, .vmsltuVV 1 2 3 false), (0x6A2540D7, .vmsltuVX 1 2 10 true),
   (0x682540D7, .vmsltuVX 1 2 10 false), (0x6E2180D7, .vmsltVV 1 2 3 true), (0x6C2180D7, .vmsltVV 1 2 3 false),
   (0x6E2540D7, .vmsltVX 1 2 10 true), (0x6C2540D7, .vmsltVX 1 2 10 false), (0x722180D7, .vmsleuVV 1 2 3 true),
   (0x702180D7, .vmsleuVV 1 2 3 false), (0x722540D7, .vmsleuVX 1 2 10 true), (0x702540D7, .vmsleuVX 1 2 10 false),
   (0x722FB0D7, .vmsleuVI 1 2 31 true), (0x702FB0D7, .vmsleuVI 1 2 31 false), (0x762180D7, .vmsleVV 1 2 3 true),
   (0x742180D7, .vmsleVV 1 2 3 false), (0x762540D7, .vmsleVX 1 2 10 true), (0x742540D7, .vmsleVX 1 2 10 false),
   (0x7622B0D7, .vmsleVI 1 2 5 true), (0x7422B0D7, .vmsleVI 1 2 5 false), (0x7A2540D7, .vmsgtuVX 1 2 10 true),
   (0x782540D7, .vmsgtuVX 1 2 10 false), (0x7A2FB0D7, .vmsgtuVI 1 2 31 true), (0x782FB0D7, .vmsgtuVI 1 2 31 false),
   (0x7E2540D7, .vmsgtVX 1 2 10 true), (0x7C2540D7, .vmsgtVX 1 2 10 false), (0x7E22B0D7, .vmsgtVI 1 2 5 true),
   (0x7C22B0D7, .vmsgtVI 1 2 5 false)] = true := by
  decide +kernel

theorem test_decode_MinMaxMulDiv_1 : decodesTo
  [(0x122180D7, .vminuVV 1 2 3 true), (0x102180D7, .vminuVV 1 2 3 false), (0x122540D7, .vminuVX 1 2 10 true),
   (0x102540D7, .vminuVX 1 2 10 false), (0x162180D7, .vminVV 1 2 3 true), (0x142180D7, .vminVV 1 2 3 false),
   (0x162540D7, .vminVX 1 2 10 true), (0x142540D7, .vminVX 1 2 10 false), (0x1A2180D7, .vmaxuVV 1 2 3 true),
   (0x182180D7, .vmaxuVV 1 2 3 false), (0x1A2540D7, .vmaxuVX 1 2 10 true), (0x182540D7, .vmaxuVX 1 2 10 false),
   (0x1E2180D7, .vmaxVV 1 2 3 true), (0x1C2180D7, .vmaxVV 1 2 3 false), (0x1E2540D7, .vmaxVX 1 2 10 true),
   (0x1C2540D7, .vmaxVX 1 2 10 false), (0x9621A0D7, .vmulVV 1 2 3 true), (0x9421A0D7, .vmulVV 1 2 3 false),
   (0x962560D7, .vmulVX 1 2 10 true), (0x942560D7, .vmulVX 1 2 10 false), (0x9E21A0D7, .vmulhVV 1 2 3 true),
   (0x9C21A0D7, .vmulhVV 1 2 3 false), (0x9E2560D7, .vmulhVX 1 2 10 true), (0x9C2560D7, .vmulhVX 1 2 10 false),
   (0x9221A0D7, .vmulhuVV 1 2 3 true), (0x9021A0D7, .vmulhuVV 1 2 3 false), (0x922560D7, .vmulhuVX 1 2 10 true),
   (0x902560D7, .vmulhuVX 1 2 10 false), (0x9A21A0D7, .vmulhsuVV 1 2 3 true), (0x9821A0D7, .vmulhsuVV 1 2 3 false),
   (0x9A2560D7, .vmulhsuVX 1 2 10 true), (0x982560D7, .vmulhsuVX 1 2 10 false), (0x8221A0D7, .vdivuVV 1 2 3 true),
   (0x8021A0D7, .vdivuVV 1 2 3 false), (0x822560D7, .vdivuVX 1 2 10 true), (0x802560D7, .vdivuVX 1 2 10 false),
   (0x8621A0D7, .vdivVV 1 2 3 true), (0x8421A0D7, .vdivVV 1 2 3 false), (0x862560D7, .vdivVX 1 2 10 true),
   (0x842560D7, .vdivVX 1 2 10 false)] = true := by
  decide +kernel

theorem test_decode_MinMaxMulDiv_2 : decodesTo
  [(0x8A21A0D7, .vremuVV 1 2 3 true), (0x8821A0D7, .vremuVV 1 2 3 false), (0x8A2560D7, .vremuVX 1 2 10 true),
   (0x882560D7, .vremuVX 1 2 10 false), (0x8E21A0D7, .vremVV 1 2 3 true), (0x8C21A0D7, .vremVV 1 2 3 false),
   (0x8E2560D7, .vremVX 1 2 10 true), (0x8C2560D7, .vremVX 1 2 10 false), (0xEE21A257, .vwmulVV 4 2 3 true),
   (0xEC21A257, .vwmulVV 4 2 3 false), (0xEE256257, .vwmulVX 4 2 10 true), (0xEC256257, .vwmulVX 4 2 10 false),
   (0xE221A257, .vwmuluVV 4 2 3 true), (0xE021A257, .vwmuluVV 4 2 3 false), (0xE2256257, .vwmuluVX 4 2 10 true),
   (0xE0256257, .vwmuluVX 4 2 10 false), (0xEA21A257, .vwmulsuVV 4 2 3 true), (0xE821A257, .vwmulsuVV 4 2 3 false),
   (0xEA256257, .vwmulsuVX 4 2 10 true), (0xE8256257, .vwmulsuVX 4 2 10 false)] = true := by
  decide +kernel

theorem test_decode_MultiplyAdd : decodesTo
  [(0xB621A0D7, .vmaccVV 1 3 2 true), (0xB421A0D7, .vmaccVV 1 3 2 false), (0xB62560D7, .vmaccVX 1 10 2 true),
   (0xB42560D7, .vmaccVX 1 10 2 false), (0xBE21A0D7, .vnmsacVV 1 3 2 true), (0xBC21A0D7, .vnmsacVV 1 3 2 false),
   (0xBE2560D7, .vnmsacVX 1 10 2 true), (0xBC2560D7, .vnmsacVX 1 10 2 false), (0xA621A0D7, .vmaddVV 1 3 2 true),
   (0xA421A0D7, .vmaddVV 1 3 2 false), (0xA62560D7, .vmaddVX 1 10 2 true), (0xA42560D7, .vmaddVX 1 10 2 false),
   (0xAE21A0D7, .vnmsubVV 1 3 2 true), (0xAC21A0D7, .vnmsubVV 1 3 2 false), (0xAE2560D7, .vnmsubVX 1 10 2 true),
   (0xAC2560D7, .vnmsubVX 1 10 2 false), (0xF221A257, .vwmaccuVV 4 3 2 true), (0xF021A257, .vwmaccuVV 4 3 2 false),
   (0xF2256257, .vwmaccuVX 4 10 2 true), (0xF0256257, .vwmaccuVX 4 10 2 false), (0xF621A257, .vwmaccVV 4 3 2 true),
   (0xF421A257, .vwmaccVV 4 3 2 false), (0xF6256257, .vwmaccVX 4 10 2 true), (0xF4256257, .vwmaccVX 4 10 2 false),
   (0xFE21A257, .vwmaccsuVV 4 3 2 true), (0xFC21A257, .vwmaccsuVV 4 3 2 false),
   (0xFE256257, .vwmaccsuVX 4 10 2 true), (0xFC256257, .vwmaccsuVX 4 10 2 false),
   (0xFA256257, .vwmaccusVX 4 10 2 true), (0xF8256257, .vwmaccusVX 4 10 2 false)] = true := by
  decide +kernel

theorem test_decode_MergeMove : decodesTo
  [(0x5C2180D7, .vmergeVVM 1 2 3), (0x5C2540D7, .vmergeVXM 1 2 10), (0x5C20B0D7, .vmergeVIM 1 2 1),
   (0x5E0180D7, .vmvVV 1 3), (0x5E0540D7, .vmvVX 1 10), (0x5E0FB0D7, .vmvVI 1 31)] = true := by
  decide +kernel

/-- The operand edges and the reserved and outside words of 95_test_vectors.md section 2. -/
theorem test_decode_edges : decodesTo
  [(0x022830D7, .vaddVI 1 2 16 true), (0x962FB0D7, .vsllVI 1 2 31 true), (0x0E2040D7, .vrsubVX 1 2 0 true),
   (0x4821A457, .vsextVF8 8 2 false), (0x5E0282D7, .vmvVV 5 5)] = true := by
  decide +kernel

theorem test_decode_reserved :
    [0x422180D7, 0x4A2180D7, 0x5E2180D7, 0x4A20A257, 0x0A20B0D7, 0x0E2180D7, 0x6E21B0D7, 0x7E2180D7,
      0xFA21A257].all (fun w => decodeWord w == .reserved) = true := by
  decide +kernel

theorem test_decode_outside :
    [0x822180D7, 0x022190D7, 0x00A50533, 0x0C0572D7].all (fun w => decodeWord w == .outside) = true := by
  decide +kernel

theorem test_decode_short : decodeBytes [0xD7, 0x80, 0x21] = .short := by decide

/-! ### Well-formedness: one ill-formed term for each check -/

theorem test_wellFormed_masked : Instr.wellFormed (.vaddVV 1 2 3 false) = true := by decide

/-- R108: masked, destination `v0`. -/
theorem test_destOffMask_refuses : Instr.wellFormed (.vaddVV 0 2 3 false) = false := by decide

/-- R109: masked, source `v0`. -/
theorem test_sourcesOffMask_refuses_vs2 : Instr.wellFormed (.vmseqVV 1 0 3 false) = false := by decide

theorem test_sourcesOffMask_refuses_vs1 : Instr.wellFormed (.vadcVVM 1 2 0) = false := by decide

/-! ### One step of every instruction -/

/-- A launch state (R352): parameters, `vsew`, `vlmul`, `vl`, the registers listed, `x10`; undisturbed policies. -/
def launch (lgVlen : Fin 17) (elen : ELen) (vsew vlmul : BitVec 3) (vl : Nat) (regs : List (Nat × Nat))
    (x10 : Nat := 0) : State :=
  { State.reset with
    cfg := ⟨.x64, lgVlen, elen, false⟩
    x := State.reset.x.set 10 (BitVec.ofNat 64 x10)
    v := regs.foldl (fun v p => v.setIfInBounds p.1 (BitVec.ofNat maxVlen p.2)) State.reset.v
    vtype := ⟨false, false, false, vsew, vlmul⟩
    vl := BitVec.ofNat 64 vl }

/-- The first `n` elements of width `w` at register `r` after a result; nothing where there is no next state. -/
def elems (r w n : Nat) : Result → List Nat
  | .next t => (List.range n).map fun i => (t.velem r w i).toNat
  | _ => []

/-- The first `n` bits of register `r` after a result. -/
def bits (r n : Nat) : Result → List Nat
  | .next t => (List.range n).map fun i => (t.vmask r i).toNat
  | _ => []

/-- Running the word placed at `pc`. -/
def runWord (s : State) (w : Nat) : Result := step (s.withFetchWord 32 w)

/-! AddSub -/

theorem test_vaddVV : elems 1 8 3 (runWord (launch 6 .e64 0 0 3 [(2, 0x127FFF), (3, 0x340101)]) 0x022180D7) =
    [0x00, 0x80, 0x46] := by
  decide +kernel

theorem test_vaddVX : elems 1 8 1 (runWord (launch 6 .e64 0 0 1 [(2, 0x10)] 0x123456789ABCDEF0) 0x022540D7) =
    [0x00] := by
  decide +kernel

theorem test_vaddVI : elems 1 8 1 (runWord (launch 6 .e64 0 0 1 [(2, 0x0)]) 0x022FB0D7) =
    [0xFF] := by
  decide +kernel

theorem test_vsubVV : elems 1 8 3 (runWord (launch 6 .e64 0 0 3 [(2, 0x348000), (3, 0x120101)]) 0x0A2180D7) =
    [0xFF, 0x7F, 0x22] := by
  decide +kernel

theorem test_vsubVX : elems 1 8 1 (runWord (launch 6 .e64 0 0 1 [(2, 0x80)] 0x123456789ABCDEFF) 0x0A2540D7) =
    [0x81] := by
  decide +kernel

theorem test_vrsubVX : elems 1 8 2 (runWord (launch 6 .e64 0 0 2 [(2, 0x8001)] 0x123456789ABCDE00) 0x0E2540D7) =
    [0xFF, 0x80] := by
  decide +kernel

theorem test_vrsubVI : elems 1 8 1 (runWord (launch 6 .e64 0 0 1 [(2, 0xF)]) 0x0E2FB0D7) =
    [0xF0] := by
  decide +kernel

theorem test_vwadduVV : elems 4 16 3 (runWord (launch 6 .e64 0 0 3 [(2, 0x8000FF), (3, 0x80FF01)]) 0xC221A257) =
    [0x0100, 0x00FF, 0x0100] := by
  decide +kernel

theorem test_vwadduVX : elems 4 16 1 (runWord (launch 6 .e64 0 0 1 [(2, 0x0)] 0x123456789ABCDEFF) 0xC2256257) =
    [0x00FF] := by
  decide +kernel

theorem test_vwsubuVV : elems 4 16 3 (runWord (launch 6 .e64 0 0 3 [(2, 0x8000FF), (3, 0x80FF01)]) 0xCA21A257) =
    [0x00FE, 0xFF01, 0x0000] := by
  decide +kernel

theorem test_vwsubuVX : elems 4 16 1 (runWord (launch 6 .e64 0 0 1 [(2, 0x0)] 0x123456789ABCDEFF) 0xCA256257) =
    [0xFF01] := by
  decide +kernel

theorem test_vwaddVV : elems 4 16 3 (runWord (launch 6 .e64 0 0 3 [(2, 0x8000FF), (3, 0x80FF01)]) 0xC621A257) =
    [0x0000, 0xFFFF, 0xFF00] := by
  decide +kernel

theorem test_vwaddVX : elems 4 16 1 (runWord (launch 6 .e64 0 0 1 [(2, 0x0)] 0x123456789ABCDEFF) 0xC6256257) =
    [0xFFFF] := by
  decide +kernel

theorem test_vwsubVV : elems 4 16 3 (runWord (launch 6 .e64 0 0 3 [(2, 0x8000FF), (3, 0x80FF01)]) 0xCE21A257) =
    [0xFFFE, 0x0001, 0x0000] := by
  decide +kernel

theorem test_vwsubVX : elems 4 16 1 (runWord (launch 6 .e64 0 0 1 [(2, 0x0)] 0x123456789ABCDEFF) 0xCE256257) =
    [0x0001] := by
  decide +kernel

theorem test_vwadduWV : elems 4 16 3 (runWord (launch 6 .e64 0 0 3 [(6, 0x12340000FFFF), (3, 0x80FF01)]) 0xD261A257) =
    [0x0000, 0x00FF, 0x12B4] := by
  decide +kernel

theorem test_vwadduWX : elems 4 16 1 (runWord (launch 6 .e64 0 0 1 [(6, 0x0)] 0x123456789ABCDEFF) 0xD2656257) =
    [0x00FF] := by
  decide +kernel

theorem test_vwsubuWV : elems 4 16 3 (runWord (launch 6 .e64 0 0 3 [(6, 0x12340000FFFF), (3, 0x80FF01)]) 0xDA61A257) =
    [0xFFFE, 0xFF01, 0x11B4] := by
  decide +kernel

theorem test_vwsubuWX : elems 4 16 1 (runWord (launch 6 .e64 0 0 1 [(6, 0x0)] 0x123456789ABCDEFF) 0xDA656257) =
    [0xFF01] := by
  decide +kernel

theorem test_vwaddWV : elems 4 16 3 (runWord (launch 6 .e64 0 0 3 [(6, 0x12340000FFFF), (3, 0x80FF01)]) 0xD661A257) =
    [0x0000, 0xFFFF, 0x11B4] := by
  decide +kernel

theorem test_vwaddWX : elems 4 16 1 (runWord (launch 6 .e64 0 0 1 [(6, 0x0)] 0x123456789ABCDEFF) 0xD6656257) =
    [0xFFFF] := by
  decide +kernel

theorem test_vwsubWV : elems 4 16 3 (runWord (launch 6 .e64 0 0 3 [(6, 0x12340000FFFF), (3, 0x80FF01)]) 0xDE61A257) =
    [0xFFFE, 0x0001, 0x12B4] := by
  decide +kernel

theorem test_vwsubWX : elems 4 16 1 (runWord (launch 6 .e64 0 0 1 [(6, 0x0)] 0x123456789ABCDEFF) 0xDE656257) =
    [0x0001] := by
  decide +kernel

/-! Extension -/

theorem test_vzextVF2 : elems 4 16 3 (runWord (launch 8 .e64 1 0 3 [(2, 0xFF807F)]) 0x4A232257) =
    [0x7F, 0x80, 0xFF] := by
  decide +kernel

theorem test_vsextVF2 : elems 4 16 3 (runWord (launch 8 .e64 1 0 3 [(2, 0xFF807F)]) 0x4A23A257) =
    [0x7F, 0xFF80, 0xFFFF] := by
  decide +kernel

theorem test_vzextVF4 : elems 4 32 3 (runWord (launch 8 .e64 2 0 3 [(2, 0xFF807F)]) 0x4A222257) =
    [0x7F, 0x80, 0xFF] := by
  decide +kernel

theorem test_vsextVF4 : elems 4 32 3 (runWord (launch 8 .e64 2 0 3 [(2, 0xFF807F)]) 0x4A22A257) =
    [0x7F, 0xFFFFFF80, 0xFFFFFFFF] := by
  decide +kernel

theorem test_vzextVF8 : elems 4 64 3 (runWord (launch 8 .e64 3 0 3 [(2, 0xFF807F)]) 0x4A212257) =
    [0x7F, 0x80, 0xFF] := by
  decide +kernel

theorem test_vsextVF8 : elems 4 64 3 (runWord (launch 8 .e64 3 0 3 [(2, 0xFF807F)]) 0x4A21A257) =
    [0x7F, 0xFFFFFFFFFFFFFF80, 0xFFFFFFFFFFFFFFFF] := by
  decide +kernel

/-! Carry -/

theorem test_vadcVVM : elems 1 8 4 (runWord (launch 6 .e64 0 0 4 [(2, 0x7F7FFFFF), (3, 0x8080FF00), (0, 0xB)]) 0x402180D7) =
    [0x00, 0xFF, 0xFF, 0x00] := by
  decide +kernel

theorem test_vadcVXM : elems 1 8 2 (runWord (launch 6 .e64 0 0 2 [(2, 0x7F7F), (0, 0x2)] 0x123456789ABCDE80) 0x402540D7) =
    [0xFF, 0x00] := by
  decide +kernel

theorem test_vadcVIM : elems 1 8 2 (runWord (launch 6 .e64 0 0 2 [(2, 0x0), (0, 0x1)]) 0x402FB0D7) =
    [0x00, 0xFF] := by
  decide +kernel

theorem test_vmadcVVM : bits 1 8 (runWord (launch 3 .e8 0 3 8
      [(0, 0xBB), (8, 0xFF), (9, 0xFF), (10, 0x7F), (11, 0x7F), (12, 0xFF), (13, 0xFF), (14, 0x7F), (15, 0x7F),
       (16, 0x00), (17, 0xFF), (18, 0x80), (19, 0x80), (20, 0x00), (21, 0xFF), (22, 0x80), (23, 0x80)]) 0x448800D7) =
    [1, 1, 0, 1, 1, 1, 0, 1] := by
  decide +kernel

theorem test_vmadcVXM : bits 1 8 (runWord (launch 3 .e8 0 3 8
      [(0, 0xAA), (8, 0x7F), (9, 0x7F), (10, 0x7F), (11, 0x7F), (12, 0x7F), (13, 0x7F), (14, 0x7F), (15, 0x7F)] 0x123456789ABCDE80) 0x448540D7) =
    [0, 1, 0, 1, 0, 1, 0, 1] := by
  decide +kernel

theorem test_vmadcVIM : bits 1 8 (runWord (launch 3 .e8 0 3 8
      [(0, 0x55), (8, 0x00), (9, 0x00), (10, 0x00), (11, 0x00), (12, 0x00), (13, 0x00), (14, 0x00), (15, 0x00)]) 0x448FB0D7) =
    [1, 0, 1, 0, 1, 0, 1, 0] := by
  decide +kernel

theorem test_vmadcVV : bits 1 8 (runWord (launch 3 .e8 0 3 8
      [(8, 0xFF), (9, 0x7F), (10, 0xFF), (11, 0x00), (12, 0xFF), (13, 0x7F), (14, 0xFF), (15, 0x00), (16, 0x01),
       (17, 0x80), (18, 0xFF), (19, 0x00), (20, 0x01), (21, 0x80), (22, 0xFF), (23, 0x00)]) 0x468800D7) =
    [1, 0, 1, 0, 1, 0, 1, 0] := by
  decide +kernel

theorem test_vmadcVX : bits 1 8 (runWord (launch 3 .e8 0 3 8
      [(8, 0x7F), (9, 0x7F), (10, 0x7F), (11, 0x7F), (12, 0x7F), (13, 0x7F), (14, 0x7F), (15, 0x7F)] 0x123456789ABCDE80) 0x468540D7) =
    [0, 0, 0, 0, 0, 0, 0, 0] := by
  decide +kernel

theorem test_vmadcVI : bits 1 8 (runWord (launch 3 .e8 0 3 8
      [(8, 0x01), (9, 0x00), (10, 0x01), (11, 0x00), (12, 0x01), (13, 0x00), (14, 0x01), (15, 0x00)]) 0x468FB0D7) =
    [1, 0, 1, 0, 1, 0, 1, 0] := by
  decide +kernel

theorem test_vsbcVVM : elems 1 8 5 (runWord (launch 6 .e64 0 0 5 [(2, 0x8000050500), (3, 0x7FFF050500), (0, 0xD)]) 0x482180D7) =
    [0xFF, 0x00, 0xFF, 0x00, 0x01] := by
  decide +kernel

theorem test_vsbcVXM : elems 1 8 2 (runWord (launch 6 .e64 0 0 2 [(2, 0x505), (0, 0x2)] 0x123456789ABCDE05) 0x482540D7) =
    [0x00, 0xFF] := by
  decide +kernel

theorem test_vmsbcVVM : bits 1 8 (runWord (launch 3 .e8 0 3 8
      [(0, 0xAD), (8, 0x00), (9, 0x05), (10, 0x05), (11, 0x00), (12, 0x80), (13, 0x00), (14, 0x05), (15, 0x05),
       (16, 0x00), (17, 0x05), (18, 0x05), (19, 0xFF), (20, 0x7F), (21, 0x00), (22, 0x05), (23, 0x05)]) 0x4C8800D7) =
    [1, 0, 1, 1, 0, 1, 0, 1] := by
  decide +kernel

theorem test_vmsbcVXM : bits 1 8 (runWord (launch 3 .e8 0 3 8
      [(0, 0xAA), (8, 0x05), (9, 0x05), (10, 0x05), (11, 0x05), (12, 0x05), (13, 0x05), (14, 0x05), (15, 0x05)] 0x123456789ABCDE05) 0x4C8540D7) =
    [0, 1, 0, 1, 0, 1, 0, 1] := by
  decide +kernel

theorem test_vmsbcVV : bits 1 8 (runWord (launch 3 .e8 0 3 8
      [(8, 0x00), (9, 0x05), (10, 0x80), (11, 0x7F), (12, 0x00), (13, 0x05), (14, 0x80), (15, 0x7F), (16, 0x01),
       (17, 0x05), (18, 0x7F), (19, 0x80), (20, 0x01), (21, 0x05), (22, 0x7F), (23, 0x80)]) 0x4E8800D7) =
    [1, 0, 0, 1, 1, 0, 0, 1] := by
  decide +kernel

theorem test_vmsbcVX : bits 1 8 (runWord (launch 3 .e8 0 3 8
      [(8, 0x7F), (9, 0x7F), (10, 0x7F), (11, 0x7F), (12, 0x7F), (13, 0x7F), (14, 0x7F), (15, 0x7F)] 0x123456789ABCDE80) 0x4E8540D7) =
    [1, 1, 1, 1, 1, 1, 1, 1] := by
  decide +kernel

/-! LogicalShift -/

theorem test_vandVV : elems 1 8 3 (runWord (launch 6 .e64 0 0 3 [(2, 0xFFAAF0), (3, 0xF553C)]) 0x262180D7) =
    [0x30, 0x00, 0x0F] := by
  decide +kernel

theorem test_vandVX : elems 1 8 1 (runWord (launch 6 .e64 0 0 1 [(2, 0xAA)] 0x123456789ABCDEFF) 0x262540D7) =
    [0xAA] := by
  decide +kernel

theorem test_vandVI : elems 1 8 1 (runWord (launch 6 .e64 0 0 1 [(2, 0xA5)]) 0x262FB0D7) =
    [0xA5] := by
  decide +kernel

theorem test_vorVV : elems 1 8 3 (runWord (launch 6 .e64 0 0 3 [(2, 0xFFAAF0), (3, 0xF553C)]) 0x2A2180D7) =
    [0xFC, 0xFF, 0xFF] := by
  decide +kernel

theorem test_vorVX : elems 1 8 1 (runWord (launch 6 .e64 0 0 1 [(2, 0xAA)] 0x123456789ABCDEFF) 0x2A2540D7) =
    [0xFF] := by
  decide +kernel

theorem test_vorVI : elems 1 8 1 (runWord (launch 6 .e64 0 0 1 [(2, 0xA5)]) 0x2A2FB0D7) =
    [0xFF] := by
  decide +kernel

theorem test_vxorVV : elems 1 8 3 (runWord (launch 6 .e64 0 0 3 [(2, 0xFFAAF0), (3, 0xF553C)]) 0x2E2180D7) =
    [0xCC, 0xFF, 0xF0] := by
  decide +kernel

theorem test_vxorVX : elems 1 8 1 (runWord (launch 6 .e64 0 0 1 [(2, 0xAA)] 0x123456789ABCDEFF) 0x2E2540D7) =
    [0x55] := by
  decide +kernel

theorem test_vxorVI : elems 1 8 1 (runWord (launch 6 .e64 0 0 1 [(2, 0xA5)]) 0x2E2FB0D7) =
    [0x5A] := by
  decide +kernel

theorem test_vsllVV : elems 1 8 4 (runWord (launch 6 .e64 0 0 4 [(2, 0x81818181), (3, 0xFF080701)]) 0x962180D7) =
    [0x02, 0x80, 0x81, 0x80] := by
  decide +kernel

theorem test_vsllVX : elems 1 8 1 (runWord (launch 6 .e64 0 0 1 [(2, 0x81)] 0x123456789ABCDE01) 0x962540D7) =
    [0x02] := by
  decide +kernel

theorem test_vsllVI : elems 1 8 1 (runWord (launch 6 .e64 0 0 1 [(2, 0x81)]) 0x9620B0D7) =
    [0x02] := by
  decide +kernel

theorem test_vsrlVV : elems 1 8 4 (runWord (launch 6 .e64 0 0 4 [(2, 0x81818181), (3, 0xFF080701)]) 0xA22180D7) =
    [0x40, 0x01, 0x81, 0x01] := by
  decide +kernel

theorem test_vsrlVX : elems 1 8 1 (runWord (launch 6 .e64 0 0 1 [(2, 0x81)] 0x123456789ABCDE01) 0xA22540D7) =
    [0x40] := by
  decide +kernel

theorem test_vsrlVI : elems 1 8 1 (runWord (launch 6 .e64 0 0 1 [(2, 0x81)]) 0xA220B0D7) =
    [0x40] := by
  decide +kernel

theorem test_vsraVV : elems 1 8 4 (runWord (launch 6 .e64 0 0 4 [(2, 0x81818181), (3, 0xFF080701)]) 0xA62180D7) =
    [0xC0, 0xFF, 0x81, 0xFF] := by
  decide +kernel

theorem test_vsraVX : elems 1 8 1 (runWord (launch 6 .e64 0 0 1 [(2, 0x81)] 0x123456789ABCDE01) 0xA62540D7) =
    [0xC0] := by
  decide +kernel

theorem test_vsraVI : elems 1 8 1 (runWord (launch 6 .e64 0 0 1 [(2, 0x81)]) 0xA620B0D7) =
    [0xC0] := by
  decide +kernel

theorem test_vnsrlWV : elems 1 8 4 (runWord (launch 6 .e64 0 0 4 [(2, 0x1234800080001234), (4, 0x100F0804)]) 0xB22200D7) =
    [0x23, 0x80, 0x01, 0x34] := by
  decide +kernel

theorem test_vnsrlWX : elems 1 8 1 (runWord (launch 6 .e64 0 0 1 [(2, 0x1234)] 0x123456789ABCDE00) 0xB22540D7) =
    [0x34] := by
  decide +kernel

theorem test_vnsrlWI : elems 1 8 1 (runWord (launch 6 .e64 0 0 1 [(2, 0x1234)]) 0xB22230D7) =
    [0x23] := by
  decide +kernel

theorem test_vnsraWV : elems 1 8 4 (runWord (launch 6 .e64 0 0 4 [(2, 0x1234800080001234), (4, 0x100F0804)]) 0xB62200D7) =
    [0x23, 0x80, 0xFF, 0x34] := by
  decide +kernel

theorem test_vnsraWX : elems 1 8 1 (runWord (launch 6 .e64 0 0 1 [(2, 0x1234)] 0x123456789ABCDE00) 0xB62540D7) =
    [0x34] := by
  decide +kernel

theorem test_vnsraWI : elems 1 8 1 (runWord (launch 6 .e64 0 0 1 [(2, 0x1234)]) 0xB62230D7) =
    [0x23] := by
  decide +kernel

/-! Compare -/

theorem test_vmseqVV : bits 1 8 (runWord (launch 3 .e8 0 3 8
      [(8, 0x05), (9, 0x80), (10, 0x7F), (11, 0xFF), (12, 0x00), (13, 0x05), (14, 0x80), (15, 0x7F), (16, 0x05),
       (17, 0x7F), (18, 0x80), (19, 0x00), (20, 0x01), (21, 0x05), (22, 0x7F), (23, 0x80)]) 0x628800D7) =
    [1, 0, 0, 0, 0, 1, 0, 0] := by
  decide +kernel

theorem test_vmseqVX : bits 1 8 (runWord (launch 3 .e8 0 3 8
      [(8, 0x7F), (9, 0x7F), (10, 0x7F), (11, 0x7F), (12, 0x7F), (13, 0x7F), (14, 0x7F), (15, 0x7F)] 0x123456789ABCDE80) 0x628540D7) =
    [0, 0, 0, 0, 0, 0, 0, 0] := by
  decide +kernel

theorem test_vmseqVI : bits 1 8 (runWord (launch 3 .e8 0 3 8
      [(8, 0x7F), (9, 0xFF), (10, 0x7F), (11, 0xFF), (12, 0x7F), (13, 0xFF), (14, 0x7F), (15, 0xFF)]) 0x628FB0D7) =
    [0, 1, 0, 1, 0, 1, 0, 1] := by
  decide +kernel

theorem test_vmsneVV : bits 1 8 (runWord (launch 3 .e8 0 3 8
      [(8, 0x05), (9, 0x80), (10, 0x7F), (11, 0xFF), (12, 0x00), (13, 0x05), (14, 0x80), (15, 0x7F), (16, 0x05),
       (17, 0x7F), (18, 0x80), (19, 0x00), (20, 0x01), (21, 0x05), (22, 0x7F), (23, 0x80)]) 0x668800D7) =
    [0, 1, 1, 1, 1, 0, 1, 1] := by
  decide +kernel

theorem test_vmsneVX : bits 1 8 (runWord (launch 3 .e8 0 3 8
      [(8, 0x7F), (9, 0x7F), (10, 0x7F), (11, 0x7F), (12, 0x7F), (13, 0x7F), (14, 0x7F), (15, 0x7F)] 0x123456789ABCDE80) 0x668540D7) =
    [1, 1, 1, 1, 1, 1, 1, 1] := by
  decide +kernel

theorem test_vmsneVI : bits 1 8 (runWord (launch 3 .e8 0 3 8
      [(8, 0x7F), (9, 0xFF), (10, 0x7F), (11, 0xFF), (12, 0x7F), (13, 0xFF), (14, 0x7F), (15, 0xFF)]) 0x668FB0D7) =
    [1, 0, 1, 0, 1, 0, 1, 0] := by
  decide +kernel

theorem test_vmsltuVV : bits 1 8 (runWord (launch 3 .e8 0 3 8
      [(8, 0x05), (9, 0x80), (10, 0x7F), (11, 0xFF), (12, 0x00), (13, 0x05), (14, 0x80), (15, 0x7F), (16, 0x05),
       (17, 0x7F), (18, 0x80), (19, 0x00), (20, 0x01), (21, 0x05), (22, 0x7F), (23, 0x80)]) 0x6A8800D7) =
    [0, 0, 1, 0, 1, 0, 0, 1] := by
  decide +kernel

theorem test_vmsltuVX : bits 1 8 (runWord (launch 3 .e8 0 3 8
      [(8, 0x7F), (9, 0x7F), (10, 0x7F), (11, 0x7F), (12, 0x7F), (13, 0x7F), (14, 0x7F), (15, 0x7F)] 0x123456789ABCDE80) 0x6A8540D7) =
    [1, 1, 1, 1, 1, 1, 1, 1] := by
  decide +kernel

theorem test_vmsltVV : bits 1 8 (runWord (launch 3 .e8 0 3 8
      [(8, 0x05), (9, 0x80), (10, 0x7F), (11, 0xFF), (12, 0x00), (13, 0x05), (14, 0x80), (15, 0x7F), (16, 0x05),
       (17, 0x7F), (18, 0x80), (19, 0x00), (20, 0x01), (21, 0x05), (22, 0x7F), (23, 0x80)]) 0x6E8800D7) =
    [0, 1, 0, 1, 1, 0, 1, 0] := by
  decide +kernel

theorem test_vmsltVX : bits 1 8 (runWord (launch 3 .e8 0 3 8
      [(8, 0x7F), (9, 0x7F), (10, 0x7F), (11, 0x7F), (12, 0x7F), (13, 0x7F), (14, 0x7F), (15, 0x7F)] 0x123456789ABCDE80) 0x6E8540D7) =
    [0, 0, 0, 0, 0, 0, 0, 0] := by
  decide +kernel

theorem test_vmsleuVV : bits 1 8 (runWord (launch 3 .e8 0 3 8
      [(8, 0x05), (9, 0x80), (10, 0x7F), (11, 0xFF), (12, 0x00), (13, 0x05), (14, 0x80), (15, 0x7F), (16, 0x05),
       (17, 0x7F), (18, 0x80), (19, 0x00), (20, 0x01), (21, 0x05), (22, 0x7F), (23, 0x80)]) 0x728800D7) =
    [1, 0, 1, 0, 1, 1, 0, 1] := by
  decide +kernel

theorem test_vmsleuVX : bits 1 8 (runWord (launch 3 .e8 0 3 8
      [(8, 0x7F), (9, 0x7F), (10, 0x7F), (11, 0x7F), (12, 0x7F), (13, 0x7F), (14, 0x7F), (15, 0x7F)] 0x123456789ABCDE80) 0x728540D7) =
    [1, 1, 1, 1, 1, 1, 1, 1] := by
  decide +kernel

theorem test_vmsleuVI : bits 1 8 (runWord (launch 3 .e8 0 3 8
      [(8, 0x7F), (9, 0xFF), (10, 0x7F), (11, 0xFF), (12, 0x7F), (13, 0xFF), (14, 0x7F), (15, 0xFF)]) 0x728FB0D7) =
    [1, 1, 1, 1, 1, 1, 1, 1] := by
  decide +kernel

theorem test_vmsleVV : bits 1 8 (runWord (launch 3 .e8 0 3 8
      [(8, 0x05), (9, 0x80), (10, 0x7F), (11, 0xFF), (12, 0x00), (13, 0x05), (14, 0x80), (15, 0x7F), (16, 0x05),
       (17, 0x7F), (18, 0x80), (19, 0x00), (20, 0x01), (21, 0x05), (22, 0x7F), (23, 0x80)]) 0x768800D7) =
    [1, 1, 0, 1, 1, 1, 1, 0] := by
  decide +kernel

theorem test_vmsleVX : bits 1 8 (runWord (launch 3 .e8 0 3 8
      [(8, 0x7F), (9, 0x7F), (10, 0x7F), (11, 0x7F), (12, 0x7F), (13, 0x7F), (14, 0x7F), (15, 0x7F)] 0x123456789ABCDE80) 0x768540D7) =
    [0, 0, 0, 0, 0, 0, 0, 0] := by
  decide +kernel

theorem test_vmsleVI : bits 1 8 (runWord (launch 3 .e8 0 3 8
      [(8, 0x7F), (9, 0xFF), (10, 0x7F), (11, 0xFF), (12, 0x7F), (13, 0xFF), (14, 0x7F), (15, 0xFF)]) 0x768FB0D7) =
    [0, 1, 0, 1, 0, 1, 0, 1] := by
  decide +kernel

theorem test_vmsgtuVX : bits 1 8 (runWord (launch 3 .e8 0 3 8
      [(8, 0x7F), (9, 0x7F), (10, 0x7F), (11, 0x7F), (12, 0x7F), (13, 0x7F), (14, 0x7F), (15, 0x7F)] 0x123456789ABCDE80) 0x7A8540D7) =
    [0, 0, 0, 0, 0, 0, 0, 0] := by
  decide +kernel

theorem test_vmsgtuVI : bits 1 8 (runWord (launch 3 .e8 0 3 8
      [(8, 0x7F), (9, 0xFF), (10, 0x7F), (11, 0xFF), (12, 0x7F), (13, 0xFF), (14, 0x7F), (15, 0xFF)]) 0x7A8FB0D7) =
    [0, 0, 0, 0, 0, 0, 0, 0] := by
  decide +kernel

theorem test_vmsgtVX : bits 1 8 (runWord (launch 3 .e8 0 3 8
      [(8, 0x7F), (9, 0x7F), (10, 0x7F), (11, 0x7F), (12, 0x7F), (13, 0x7F), (14, 0x7F), (15, 0x7F)] 0x123456789ABCDE80) 0x7E8540D7) =
    [1, 1, 1, 1, 1, 1, 1, 1] := by
  decide +kernel

theorem test_vmsgtVI : bits 1 8 (runWord (launch 3 .e8 0 3 8
      [(8, 0x7F), (9, 0xFF), (10, 0x7F), (11, 0xFF), (12, 0x7F), (13, 0xFF), (14, 0x7F), (15, 0xFF)]) 0x7E8FB0D7) =
    [1, 0, 1, 0, 1, 0, 1, 0] := by
  decide +kernel

/-! MinMaxMulDiv -/

theorem test_vminuVV : elems 1 8 4 (runWord (launch 6 .e64 0 0 4 [(2, 0x105FF80), (3, 0x205007F)]) 0x122180D7) =
    [0x7F, 0x00, 0x05, 0x01] := by
  decide +kernel

theorem test_vminuVX : elems 1 8 1 (runWord (launch 6 .e64 0 0 1 [(2, 0x80)] 0x123456789ABCDE7F) 0x122540D7) =
    [0x7F] := by
  decide +kernel

theorem test_vminVV : elems 1 8 4 (runWord (launch 6 .e64 0 0 4 [(2, 0x105FF80), (3, 0x205007F)]) 0x162180D7) =
    [0x80, 0xFF, 0x05, 0x01] := by
  decide +kernel

theorem test_vminVX : elems 1 8 1 (runWord (launch 6 .e64 0 0 1 [(2, 0x80)] 0x123456789ABCDE7F) 0x162540D7) =
    [0x80] := by
  decide +kernel

theorem test_vmaxuVV : elems 1 8 4 (runWord (launch 6 .e64 0 0 4 [(2, 0x105FF80), (3, 0x205007F)]) 0x1A2180D7) =
    [0x80, 0xFF, 0x05, 0x02] := by
  decide +kernel

theorem test_vmaxuVX : elems 1 8 1 (runWord (launch 6 .e64 0 0 1 [(2, 0x80)] 0x123456789ABCDE7F) 0x1A2540D7) =
    [0x80] := by
  decide +kernel

theorem test_vmaxVV : elems 1 8 4 (runWord (launch 6 .e64 0 0 4 [(2, 0x105FF80), (3, 0x205007F)]) 0x1E2180D7) =
    [0x7F, 0x00, 0x05, 0x02] := by
  decide +kernel

theorem test_vmaxVX : elems 1 8 1 (runWord (launch 6 .e64 0 0 1 [(2, 0x80)] 0x123456789ABCDE7F) 0x1E2540D7) =
    [0x7F] := by
  decide +kernel

theorem test_vmulVV : elems 1 8 5 (runWord (launch 6 .e64 0 0 5 [(2, 0x10FF7FFF80), (3, 0x1001FFFF80)]) 0x9621A0D7) =
    [0x00, 0x01, 0x81, 0xFF, 0x00] := by
  decide +kernel

theorem test_vmulVX : elems 1 8 2 (runWord (launch 6 .e64 0 0 2 [(2, 0x7FFF)] 0x123456789ABCDEFF) 0x962560D7) =
    [0x01, 0x81] := by
  decide +kernel

theorem test_vmulhVV : elems 1 8 5 (runWord (launch 6 .e64 0 0 5 [(2, 0x10FF7FFF80), (3, 0x1001FFFF80)]) 0x9E21A0D7) =
    [0x40, 0x00, 0xFF, 0xFF, 0x01] := by
  decide +kernel

theorem test_vmulhVX : elems 1 8 2 (runWord (launch 6 .e64 0 0 2 [(2, 0x7FFF)] 0x123456789ABCDEFF) 0x9E2560D7) =
    [0x00, 0xFF] := by
  decide +kernel

theorem test_vmulhuVV : elems 1 8 5 (runWord (launch 6 .e64 0 0 5 [(2, 0x10FF7FFF80), (3, 0x1001FFFF80)]) 0x9221A0D7) =
    [0x40, 0xFE, 0x7E, 0x00, 0x01] := by
  decide +kernel

theorem test_vmulhuVX : elems 1 8 2 (runWord (launch 6 .e64 0 0 2 [(2, 0x7FFF)] 0x123456789ABCDEFF) 0x922560D7) =
    [0xFE, 0x7E] := by
  decide +kernel

theorem test_vmulhsuVV : elems 1 8 5 (runWord (launch 6 .e64 0 0 5 [(2, 0x10FF7FFF80), (3, 0x1001FFFF80)]) 0x9A21A0D7) =
    [0xC0, 0xFF, 0x7E, 0xFF, 0x01] := by
  decide +kernel

theorem test_vmulhsuVX : elems 1 8 2 (runWord (launch 6 .e64 0 0 2 [(2, 0x7FFF)] 0x123456789ABCDEFF) 0x9A2560D7) =
    [0xFF, 0x7E] := by
  decide +kernel

theorem test_vdivuVV : elems 1 8 5 (runWord (launch 6 .e64 0 0 5 [(2, 0x78007F907), (3, 0xFEFF000202)]) 0x8221A0D7) =
    [0x03, 0x7C, 0xFF, 0x00, 0x00] := by
  decide +kernel

theorem test_vdivuVX : elems 1 8 2 (runWord (launch 6 .e64 0 0 2 [(2, 0xF907)] 0x123456789ABCDE02) 0x822560D7) =
    [0x03, 0x7C] := by
  decide +kernel

theorem test_vdivVV : elems 1 8 5 (runWord (launch 6 .e64 0 0 5 [(2, 0x78007F907), (3, 0xFEFF000202)]) 0x8621A0D7) =
    [0x03, 0xFD, 0xFF, 0x80, 0xFD] := by
  decide +kernel

theorem test_vdivVX : elems 1 8 2 (runWord (launch 6 .e64 0 0 2 [(2, 0xF907)] 0x123456789ABCDE02) 0x862560D7) =
    [0x03, 0xFD] := by
  decide +kernel

theorem test_vremuVV : elems 1 8 5 (runWord (launch 6 .e64 0 0 5 [(2, 0x78007F907), (3, 0xFEFF000202)]) 0x8A21A0D7) =
    [0x01, 0x01, 0x07, 0x80, 0x07] := by
  decide +kernel

theorem test_vremuVX : elems 1 8 2 (runWord (launch 6 .e64 0 0 2 [(2, 0xF907)] 0x123456789ABCDE02) 0x8A2560D7) =
    [0x01, 0x01] := by
  decide +kernel

theorem test_vremVV : elems 1 8 5 (runWord (launch 6 .e64 0 0 5 [(2, 0x78007F907), (3, 0xFEFF000202)]) 0x8E21A0D7) =
    [0x01, 0xFF, 0x07, 0x00, 0x01] := by
  decide +kernel

theorem test_vremVX : elems 1 8 2 (runWord (launch 6 .e64 0 0 2 [(2, 0xF907)] 0x123456789ABCDE02) 0x8E2560D7) =
    [0x01, 0xFF] := by
  decide +kernel

theorem test_vwmulVV : elems 4 16 5 (runWord (launch 6 .e64 0 0 5 [(2, 0x10FF7FFF80), (3, 0x1001FFFF80)]) 0xEE21A257) =
    [0x4000, 0x0001, 0xFF81, 0xFFFF, 0x0100] := by
  decide +kernel

theorem test_vwmulVX : elems 4 16 2 (runWord (launch 6 .e64 0 0 2 [(2, 0x7FFF)] 0x123456789ABCDEFF) 0xEE256257) =
    [0x0001, 0xFF81] := by
  decide +kernel

theorem test_vwmuluVV : elems 4 16 5 (runWord (launch 6 .e64 0 0 5 [(2, 0x10FF7FFF80), (3, 0x1001FFFF80)]) 0xE221A257) =
    [0x4000, 0xFE01, 0x7E81, 0x00FF, 0x0100] := by
  decide +kernel

theorem test_vwmuluVX : elems 4 16 2 (runWord (launch 6 .e64 0 0 2 [(2, 0x7FFF)] 0x123456789ABCDEFF) 0xE2256257) =
    [0xFE01, 0x7E81] := by
  decide +kernel

theorem test_vwmulsuVV : elems 4 16 5 (runWord (launch 6 .e64 0 0 5 [(2, 0x10FF7FFF80), (3, 0x1001FFFF80)]) 0xEA21A257) =
    [0xC000, 0xFF01, 0x7E81, 0xFFFF, 0x0100] := by
  decide +kernel

theorem test_vwmulsuVX : elems 4 16 2 (runWord (launch 6 .e64 0 0 2 [(2, 0x7FFF)] 0x123456789ABCDEFF) 0xEA256257) =
    [0xFF01, 0x7E81] := by
  decide +kernel

/-! MultiplyAdd -/

theorem test_vmaccVV : elems 1 8 4 (runWord (launch 6 .e64 0 0 4 [(2, 0x2FF1003), (3, 0x3FF1004), (1, 0xFE000105)]) 0xB621A0D7) =
    [0x11, 0x01, 0x01, 0x04] := by
  decide +kernel

theorem test_vmaccVX : elems 1 8 1 (runWord (launch 6 .e64 0 0 1 [(2, 0xFF), (1, 0x0)] 0x123456789ABCDEFF) 0xB62560D7) =
    [0x01] := by
  decide +kernel

theorem test_vnmsacVV : elems 1 8 4 (runWord (launch 6 .e64 0 0 4 [(2, 0x2FF1003), (3, 0x3FF1004), (1, 0xFE000105)]) 0xBE21A0D7) =
    [0xF9, 0x01, 0xFF, 0xF8] := by
  decide +kernel

theorem test_vnmsacVX : elems 1 8 1 (runWord (launch 6 .e64 0 0 1 [(2, 0xFF), (1, 0x0)] 0x123456789ABCDEFF) 0xBE2560D7) =
    [0xFF] := by
  decide +kernel

theorem test_vmaddVV : elems 1 8 4 (runWord (launch 6 .e64 0 0 4 [(2, 0x2FF1003), (3, 0x3FF1004), (1, 0xFE000105)]) 0xA621A0D7) =
    [0x17, 0x20, 0xFF, 0xFC] := by
  decide +kernel

theorem test_vmaddVX : elems 1 8 1 (runWord (launch 6 .e64 0 0 1 [(2, 0xFF), (1, 0x0)] 0x123456789ABCDEFF) 0xA62560D7) =
    [0xFF] := by
  decide +kernel

theorem test_vnmsubVV : elems 1 8 4 (runWord (launch 6 .e64 0 0 4 [(2, 0x2FF1003), (3, 0x3FF1004), (1, 0xFE000105)]) 0xAE21A0D7) =
    [0xEF, 0x00, 0xFF, 0x08] := by
  decide +kernel

theorem test_vnmsubVX : elems 1 8 1 (runWord (launch 6 .e64 0 0 1 [(2, 0xFF), (1, 0x0)] 0x123456789ABCDEFF) 0xAE2560D7) =
    [0xFF] := by
  decide +kernel

theorem test_vwmaccuVV : elems 4 16 4 (runWord (launch 6 .e64 0 0 4 [(2, 0x10FF80FF), (3, 0x10017FFF), (4, 0xFF00FFFF00010000)]) 0xF221A257) =
    [0xFE01, 0x3F81, 0x00FE, 0x0000] := by
  decide +kernel

theorem test_vwmaccuVX : elems 4 16 1 (runWord (launch 6 .e64 0 0 1 [(2, 0xFF), (4, 0x0)] 0x123456789ABCDEFF) 0xF2256257) =
    [0xFE01] := by
  decide +kernel

theorem test_vwmaccVV : elems 4 16 4 (runWord (launch 6 .e64 0 0 4 [(2, 0x10FF80FF), (3, 0x10017FFF), (4, 0xFF00FFFF00010000)]) 0xF621A257) =
    [0x0001, 0xC081, 0xFFFE, 0x0000] := by
  decide +kernel

theorem test_vwmaccVX : elems 4 16 1 (runWord (launch 6 .e64 0 0 1 [(2, 0xFF), (4, 0x0)] 0x123456789ABCDEFF) 0xF6256257) =
    [0x0001] := by
  decide +kernel

theorem test_vwmaccsuVV : elems 4 16 4 (runWord (launch 6 .e64 0 0 4 [(2, 0x10FF80FF), (3, 0x10017FFF), (4, 0xFF00FFFF00010000)]) 0xFE21A257) =
    [0xFF01, 0x3F81, 0x00FE, 0x0000] := by
  decide +kernel

theorem test_vwmaccsuVX : elems 4 16 1 (runWord (launch 6 .e64 0 0 1 [(2, 0xFF), (4, 0x0)] 0x123456789ABCDEFF) 0xFE256257) =
    [0xFF01] := by
  decide +kernel

theorem test_vwmaccusVX : elems 4 16 1 (runWord (launch 6 .e64 0 0 1 [(2, 0xFF), (4, 0x0)] 0x123456789ABCDEFF) 0xFA256257) =
    [0xFF01] := by
  decide +kernel

/-! MergeMove -/

theorem test_vmergeVVM : elems 1 8 3 (runWord (launch 6 .e64 0 0 3 [(2, 0x1111), (3, 0xFF2222), (0, 0x6)]) 0x5C2180D7) =
    [0x11, 0x22, 0xFF] := by
  decide +kernel

theorem test_vmergeVXM : elems 1 8 2 (runWord (launch 6 .e64 0 0 2 [(2, 0x1111), (0, 0x2)] 0x123456789ABCDE22) 0x5C2540D7) =
    [0x11, 0x22] := by
  decide +kernel

theorem test_vmergeVIM : elems 1 8 2 (runWord (launch 6 .e64 0 0 2 [(2, 0x1111), (0, 0x2)]) 0x5C22B0D7) =
    [0x11, 0x05] := by
  decide +kernel

theorem test_vmvVV : elems 1 8 2 (runWord (launch 6 .e64 0 0 2 [(3, 0x5A5A)]) 0x5E0180D7) = [0x5A, 0x5A] := by
  decide +kernel

theorem test_vmvVX : elems 1 8 2 (runWord (launch 6 .e64 0 0 2 [] 0x123456789ABCDE5A) 0x5E0540D7) = [0x5A, 0x5A] := by
  decide +kernel

theorem test_vmvVI : elems 1 8 2 (runWord (launch 6 .e64 0 0 2 []) 0x5E0FB0D7) = [0xFF, 0xFF] := by
  decide +kernel

/-! ### The execution model: 95_test_vectors.md section 3 -/

/-- The state of the M vectors: `VLEN = 128`, `SEW = 32`, `LMUL = 1`, and the registers they give. -/
def vectorM (vl : Nat) : State :=
  launch 7 .e64 2 0 vl [(0, 0b0101), (1, 0x0000000D0000000C0000000B0000000A),
    (2, 0x00000004000000030000000200000001), (3, 0x00000040000000300000002000000010)]

theorem test_M1_unmasked : elems 1 32 4 (runWord (vectorM 4) 0x022180D7) = [0x11, 0x22, 0x33, 0x44] := by
  decide +kernel

theorem test_M2_masked : elems 1 32 4 (runWord (vectorM 4) 0x002180D7) = [0x11, 0x0B, 0x33, 0x0D] := by
  decide +kernel

theorem test_M4_tail : elems 1 32 4 (runWord (vectorM 2) 0x022180D7) = [0x11, 0x22, 0x0C, 0x0D] := by
  decide +kernel

theorem test_M7_prestart :
    elems 1 32 4 (runWord { vectorM 4 with vstart := 1 } 0x022180D7) = [0x0A, 0x22, 0x33, 0x44] := by
  decide +kernel

theorem test_M9_empty_body :
    elems 1 32 4 (runWord { vectorM 2 with vtype := ⟨false, false, true, 2, 0⟩, vstart := 2 } 0x022180D7) =
      [0x0A, 0x0B, 0x0C, 0x0D] := by
  decide +kernel

/-- The answer is the exception, with this word. -/
def faultsWith (w : Nat) : Result → Bool
  | .fault (.illegalInstruction i) => i == BitVec.ofNat 32 w
  | _ => false

/-- The answer is a next state. -/
def isNext : Result → Bool
  | .next _ => true
  | _ => false

theorem test_M10_vstart_traps :
    faultsWith 0x022180D7 (runWord { vectorM 4 with vstart := 1, cfg := ⟨.x64, 7, .e64, true⟩ } 0x022180D7) = true := by
  decide +kernel

theorem test_M11_vill :
    faultsWith 0x022180D7 (runWord { vectorM 4 with vtype := ⟨true, false, false, 2, 0⟩ } 0x022180D7) = true := by
  decide +kernel

/-- G1: a group of two registers. -/
theorem test_G1_group :
    elems 6 128 2 (runWord (launch 7 .e64 2 1 8
      [(2, 0x00000004000000030000000200000001), (3, 0x00000008000000070000000600000005),
       (4, 0x00000400000003000000020000000100), (5, 0x00000800000007000000060000000500)]) 0x02220357) =
      [0x00000404000003030000020200000101, 0x00000808000007070000060600000505] := by
  decide +kernel

theorem test_G2_odd_registers_fault :
    (faultsWith 0x02228357 (runWord (launch 7 .e64 2 1 8 []) 0x02228357) &&
      faultsWith 0x022203D7 (runWord (launch 7 .e64 2 1 8 []) 0x022203D7) &&
      faultsWith 0x02320357 (runWord (launch 7 .e64 2 1 8 []) 0x02320357)) = true := by
  decide +kernel

/-- X2: `XLEN = 32`, `SEW = 64`: the scalar is sign-extended. -/
theorem test_X2_scalar_sign_extended :
    elems 1 64 2 (runWord { launch 7 .e64 3 0 2 [(2, 0x00000001000000000000000000000001)] 0x80000000 with
      cfg := ⟨.x32, 7, .e64, false⟩ } 0x022540D7) = [0xFFFFFFFF80000001, 0x0000000080000000] := by
  decide +kernel

/-- X4: `vadd.vi` sign-extends its immediate, `vsll.vi` does not. -/
theorem test_X4_immediates :
    (elems 1 64 1 (runWord (launch 7 .e64 3 0 1 []) 0x022830D7),
      elems 1 64 1 (runWord (launch 7 .e64 3 0 1 [(2, 1)]) 0x962FB0D7)) = ([0xFFFFFFFFFFFFFFF0], [0x80000000]) := by
  decide +kernel

/-- R120, R38: what completion leaves in `pc`, `vstart` and `mstatus.VS`. -/
theorem test_completion :
    (match runWord { vectorM 4 with vstart := 1, pc := 0x1000 } 0x022180D7 with
      | .next t => t.pc == 0x1004 && t.vstart == 0 && t.vs == .dirty
      | _ => false) = true := by
  decide +kernel

/-! ### Witnesses for the hypotheses of the statements

Each shows concrete states and operands that meet a statement's hypotheses together, clause by clause, at boundary
values where a clause has a range. -/

/-- Every class of element is there: prestart 0 and 1, active 2 and 4, inactive 3 and 5, tail 6 and 7; both policies
agnostic. -/
def mid : State :=
  { launch 6 .e64 0 0 6 [(0, 0b010100), (1, 0x0102030405060708), (8, 0x80FF7F0001020304)] 0x7F with
    vtype := ⟨false, true, true, 0, 0⟩
    vstart := 2
    pc := 0x1000 }

/-- The same with `SEW = 64`, `VLEN = 512`. -/
def midWide : State :=
  { mid with cfg := ⟨.x64, 9, .e64, false⟩, vtype := ⟨false, true, true, 3, 0⟩ }

/-- `mid` with a group size of two registers. -/
def midTwo : State := { mid with vtype := ⟨false, true, true, 0, 1⟩ }

/-- `mid` from the start of the vector. -/
def midZero : State := { mid with vstart := 0 }

theorem mid_wf : mid.Wf where
  params := by decide
  x0 := by decide +kernel
  xWidth := by decide +kernel
  pcWidth := by decide +kernel
  pcAligned := by decide +kernel
  vWidth := by decide +kernel
  config := by decide +kernel
  vstart := by decide +kernel
  text := rfl
  space := rfl

/-- Ready, and every instruction of the list legal. -/
def allLegal (s : State) (l : List Instr) : Bool := Ready s && l.all (Legal s)

theorem witness_AddSubtractReverseSubtractResults : allLegal mid
  [.vaddVV 4 8 6 true, .vaddVV 4 8 6 false, .vaddVX 4 8 10 true, .vaddVX 4 8 10 false, .vaddVI 4 8 31 true,
   .vaddVI 4 8 31 false, .vsubVV 4 8 6 true, .vsubVV 4 8 6 false, .vsubVX 4 8 10 true, .vsubVX 4 8 10 false,
   .vrsubVX 4 8 10 true, .vrsubVX 4 8 10 false, .vrsubVI 4 8 31 true, .vrsubVI 4 8 31 false] = true := by
  decide +kernel

theorem witness_WideningAddSubtractResults : allLegal mid
  [.vwadduVV 4 8 6 true, .vwadduVV 4 8 6 false, .vwadduVX 4 8 10 true, .vwadduVX 4 8 10 false, .vwsubuVV 4 8 6 true,
   .vwsubuVV 4 8 6 false, .vwsubuVX 4 8 10 true, .vwsubuVX 4 8 10 false, .vwaddVV 4 8 6 true, .vwaddVV 4 8 6 false,
   .vwaddVX 4 8 10 true, .vwaddVX 4 8 10 false, .vwsubVV 4 8 6 true, .vwsubVV 4 8 6 false, .vwsubVX 4 8 10 true,
   .vwsubVX 4 8 10 false] = true := by
  decide +kernel

theorem witness_WideningAddSubtractWideResults : allLegal mid
  [.vwadduWV 4 8 6 true, .vwadduWV 4 8 6 false, .vwadduWX 4 8 10 true, .vwadduWX 4 8 10 false, .vwsubuWV 4 8 6 true,
   .vwsubuWV 4 8 6 false, .vwsubuWX 4 8 10 true, .vwsubuWX 4 8 10 false, .vwaddWV 4 8 6 true, .vwaddWV 4 8 6 false,
   .vwaddWX 4 8 10 true, .vwaddWX 4 8 10 false, .vwsubWV 4 8 6 true, .vwsubWV 4 8 6 false, .vwsubWX 4 8 10 true,
   .vwsubWX 4 8 10 false] = true := by
  decide +kernel

theorem witness_ExtensionResults : allLegal midWide
  [.vzextVF2 4 8 true, .vzextVF2 4 8 false, .vsextVF2 4 8 true, .vsextVF2 4 8 false, .vzextVF4 4 8 true,
   .vzextVF4 4 8 false, .vsextVF4 4 8 true, .vsextVF4 4 8 false, .vzextVF8 4 8 true, .vzextVF8 4 8 false,
   .vsextVF8 4 8 true, .vsextVF8 4 8 false] = true := by
  decide +kernel

theorem witness_AddWithCarrySubtractWithBorrowResults : allLegal mid
  [.vadcVVM 4 8 6, .vadcVXM 4 8 10, .vadcVIM 4 8 31, .vsbcVVM 4 8 6, .vsbcVXM 4 8 10] = true := by
  decide +kernel

theorem witness_CarryOutBorrowOutResults : allLegal mid
  [.vmadcVVM 4 8 6, .vmadcVXM 4 8 10, .vmadcVIM 4 8 31, .vmadcVV 4 8 6, .vmadcVX 4 8 10, .vmadcVI 4 8 31,
   .vmsbcVVM 4 8 6, .vmsbcVXM 4 8 10, .vmsbcVV 4 8 6, .vmsbcVX 4 8 10] = true := by
  decide +kernel

theorem witness_BitwiseLogicalResults : allLegal mid
  [.vandVV 4 8 6 true, .vandVV 4 8 6 false, .vandVX 4 8 10 true, .vandVX 4 8 10 false, .vandVI 4 8 31 true,
   .vandVI 4 8 31 false, .vorVV 4 8 6 true, .vorVV 4 8 6 false, .vorVX 4 8 10 true, .vorVX 4 8 10 false,
   .vorVI 4 8 31 true, .vorVI 4 8 31 false, .vxorVV 4 8 6 true, .vxorVV 4 8 6 false, .vxorVX 4 8 10 true,
   .vxorVX 4 8 10 false, .vxorVI 4 8 31 true, .vxorVI 4 8 31 false] = true := by
  decide +kernel

theorem witness_ShiftResults : allLegal mid
  [.vsllVV 4 8 6 true, .vsllVV 4 8 6 false, .vsllVX 4 8 10 true, .vsllVX 4 8 10 false, .vsllVI 4 8 31 true,
   .vsllVI 4 8 31 false, .vsrlVV 4 8 6 true, .vsrlVV 4 8 6 false, .vsrlVX 4 8 10 true, .vsrlVX 4 8 10 false,
   .vsrlVI 4 8 31 true, .vsrlVI 4 8 31 false, .vsraVV 4 8 6 true, .vsraVV 4 8 6 false, .vsraVX 4 8 10 true,
   .vsraVX 4 8 10 false, .vsraVI 4 8 31 true, .vsraVI 4 8 31 false] = true := by
  decide +kernel

theorem witness_NarrowingShiftResults : allLegal mid
  [.vnsrlWV 4 8 6 true, .vnsrlWV 4 8 6 false, .vnsrlWX 4 8 10 true, .vnsrlWX 4 8 10 false, .vnsrlWI 4 8 31 true,
   .vnsrlWI 4 8 31 false, .vnsraWV 4 8 6 true, .vnsraWV 4 8 6 false, .vnsraWX 4 8 10 true, .vnsraWX 4 8 10 false,
   .vnsraWI 4 8 31 true, .vnsraWI 4 8 31 false] = true := by
  decide +kernel

theorem witness_EqualityComparisonResults : allLegal mid
  [.vmseqVV 4 8 6 true, .vmseqVV 4 8 6 false, .vmseqVX 4 8 10 true, .vmseqVX 4 8 10 false, .vmseqVI 4 8 31 true,
   .vmseqVI 4 8 31 false, .vmsneVV 4 8 6 true, .vmsneVV 4 8 6 false, .vmsneVX 4 8 10 true, .vmsneVX 4 8 10 false,
   .vmsneVI 4 8 31 true, .vmsneVI 4 8 31 false] = true := by
  decide +kernel

theorem witness_UnsignedComparisonResults : allLegal mid
  [.vmsltuVV 4 8 6 true, .vmsltuVV 4 8 6 false, .vmsltuVX 4 8 10 true, .vmsltuVX 4 8 10 false, .vmsleuVV 4 8 6 true,
   .vmsleuVV 4 8 6 false, .vmsleuVX 4 8 10 true, .vmsleuVX 4 8 10 false, .vmsleuVI 4 8 31 true,
   .vmsleuVI 4 8 31 false, .vmsgtuVX 4 8 10 true, .vmsgtuVX 4 8 10 false, .vmsgtuVI 4 8 31 true,
   .vmsgtuVI 4 8 31 false] = true := by
  decide +kernel

theorem witness_SignedComparisonResults : allLegal mid
  [.vmsltVV 4 8 6 true, .vmsltVV 4 8 6 false, .vmsltVX 4 8 10 true, .vmsltVX 4 8 10 false, .vmsleVV 4 8 6 true,
   .vmsleVV 4 8 6 false, .vmsleVX 4 8 10 true, .vmsleVX 4 8 10 false, .vmsleVI 4 8 31 true, .vmsleVI 4 8 31 false,
   .vmsgtVX 4 8 10 true, .vmsgtVX 4 8 10 false, .vmsgtVI 4 8 31 true, .vmsgtVI 4 8 31 false] = true := by
  decide +kernel

theorem witness_MinimumMaximumResults : allLegal mid
  [.vminuVV 4 8 6 true, .vminuVV 4 8 6 false, .vminuVX 4 8 10 true, .vminuVX 4 8 10 false, .vminVV 4 8 6 true,
   .vminVV 4 8 6 false, .vminVX 4 8 10 true, .vminVX 4 8 10 false, .vmaxuVV 4 8 6 true, .vmaxuVV 4 8 6 false,
   .vmaxuVX 4 8 10 true, .vmaxuVX 4 8 10 false, .vmaxVV 4 8 6 true, .vmaxVV 4 8 6 false, .vmaxVX 4 8 10 true,
   .vmaxVX 4 8 10 false] = true := by
  decide +kernel

theorem witness_MultiplyResults : allLegal mid
  [.vmulVV 4 8 6 true, .vmulVV 4 8 6 false, .vmulVX 4 8 10 true, .vmulVX 4 8 10 false, .vmulhVV 4 8 6 true,
   .vmulhVV 4 8 6 false, .vmulhVX 4 8 10 true, .vmulhVX 4 8 10 false, .vmulhuVV 4 8 6 true, .vmulhuVV 4 8 6 false,
   .vmulhuVX 4 8 10 true, .vmulhuVX 4 8 10 false, .vmulhsuVV 4 8 6 true, .vmulhsuVV 4 8 6 false,
   .vmulhsuVX 4 8 10 true, .vmulhsuVX 4 8 10 false] = true := by
  decide +kernel

theorem witness_DivideRemainderResults : allLegal mid
  [.vdivuVV 4 8 6 true, .vdivuVV 4 8 6 false, .vdivuVX 4 8 10 true, .vdivuVX 4 8 10 false, .vdivVV 4 8 6 true,
   .vdivVV 4 8 6 false, .vdivVX 4 8 10 true, .vdivVX 4 8 10 false, .vremuVV 4 8 6 true, .vremuVV 4 8 6 false,
   .vremuVX 4 8 10 true, .vremuVX 4 8 10 false, .vremVV 4 8 6 true, .vremVV 4 8 6 false, .vremVX 4 8 10 true,
   .vremVX 4 8 10 false] = true := by
  decide +kernel

theorem witness_WideningMultiplyResults : allLegal mid
  [.vwmulVV 4 8 6 true, .vwmulVV 4 8 6 false, .vwmulVX 4 8 10 true, .vwmulVX 4 8 10 false, .vwmuluVV 4 8 6 true,
   .vwmuluVV 4 8 6 false, .vwmuluVX 4 8 10 true, .vwmuluVX 4 8 10 false, .vwmulsuVV 4 8 6 true,
   .vwmulsuVV 4 8 6 false, .vwmulsuVX 4 8 10 true, .vwmulsuVX 4 8 10 false] = true := by
  decide +kernel

theorem witness_MultiplyAddResults : allLegal mid
  [.vmaccVV 4 6 8 true, .vmaccVV 4 6 8 false, .vmaccVX 4 10 8 true, .vmaccVX 4 10 8 false, .vnmsacVV 4 6 8 true,
   .vnmsacVV 4 6 8 false, .vnmsacVX 4 10 8 true, .vnmsacVX 4 10 8 false, .vmaddVV 4 6 8 true, .vmaddVV 4 6 8 false,
   .vmaddVX 4 10 8 true, .vmaddVX 4 10 8 false, .vnmsubVV 4 6 8 true, .vnmsubVV 4 6 8 false, .vnmsubVX 4 10 8 true,
   .vnmsubVX 4 10 8 false] = true := by
  decide +kernel

theorem witness_WideningMultiplyAddResults : allLegal mid
  [.vwmaccuVV 4 6 8 true, .vwmaccuVV 4 6 8 false, .vwmaccuVX 4 10 8 true, .vwmaccuVX 4 10 8 false,
   .vwmaccVV 4 6 8 true, .vwmaccVV 4 6 8 false, .vwmaccVX 4 10 8 true, .vwmaccVX 4 10 8 false,
   .vwmaccsuVV 4 6 8 true, .vwmaccsuVV 4 6 8 false, .vwmaccsuVX 4 10 8 true, .vwmaccsuVX 4 10 8 false,
   .vwmaccusVX 4 10 8 true, .vwmaccusVX 4 10 8 false] = true := by
  decide +kernel

theorem witness_MergeResults : allLegal mid
  [.vmergeVVM 4 8 6, .vmergeVXM 4 8 10, .vmergeVIM 4 8 31] = true := by
  decide +kernel

theorem witness_MoveResults : allLegal mid
  [.vmvVV 4 6, .vmvVX 4 10, .vmvVI 4 31] = true := by
  decide +kernel

theorem witness_EncodeOfDecodeIsTheWord :
    decodeWord 0x022180D7 = .instr (.vaddVV 1 2 3 true) ∧ encode (.vaddVV 1 2 3 true) = 0x022180D7 := by
  decide +kernel

theorem witness_TableRowMatchesExactlyItsInstruction :
    (∃ r ∈ opcodeTable, r.matchesWord 0x022180D7 = true) ∧ decodeWord 0x022180D7 = .instr (.vaddVV 1 2 3 true) := by
  decide +kernel

theorem witness_NoWordMatchesTwoTableRows :
    (opcodeTable.filter fun r => r.matchesWord 0x5E0180D7).map (·.mnemonic) = ["vmv.v.v"] := by
  decide +kernel

/-- `mid` with a word placed at its `pc`, and at the last aligned address of a 32-bit space. -/
def midAt (w : Nat) : State := mid.withFetchWord 32 w

def midTop (w : Nat) : State :=
  State.withFetchWord { mid with cfg := ⟨.x32, 6, .e64, false⟩, pc := 0xFFFFFFFC } 32 w

theorem witness_StepRunsTheDecodedInstruction :
    [midAt 0x022180D7, midTop 0x022180D7].all (fun s =>
      s.pcAddr % 4 == 0 && s.readByte s.pcAddr == some 0xD7 && s.readByte (s.pcAddr + 1) == some 0x80 &&
      s.readByte (s.pcAddr + 2) == some 0x21 && s.readByte (s.pcAddr + 3) == some 0x02) = true ∧
    decodeBytes [0xD7, 0x80, 0x21, 0x02] = .instr (.vaddVV 1 2 3 true) := by
  decide +kernel

theorem witness_FetchIsLittleEndian :
    [midAt 0x022180D7, midTop 0x022180D7].all (fun s => s.pcAddr % 4 == 0 &&
      (match s.fetch with | .ok w => w == 0x022180D7 | _ => false)) = true := by
  decide +kernel

theorem witness_StepOnReservedFaultsOnOutsideRefuses :
    (match (midAt 0x422180D7).fetch with | .ok w => decodeWord w == .reserved | _ => false) = true ∧
    (match (midAt 0x0C0572D7).fetch with | .ok w => decodeWord w == .outside | _ => false) = true ∧
    mid.pcAddr % 4 = 0 ∧ mid.readByte mid.pcAddr = none := by
  decide +kernel

theorem witness_PlacedWordIsTheNextInstruction :
    mid.pcAddr % 4 = 0 ∧ decodeWord 0x022180D7 = .instr (.vaddVV 1 2 3 true) := by
  decide +kernel

/-- Two words, at `base`, with `mid`'s registers. -/
def twoWords (xlen : XLen) (base : Nat) : State :=
  State.loadText { mid with cfg := ⟨xlen, 6, .e64, false⟩, pc := BitVec.ofNat 64 base } base [0x022180D7, 0x0A2180D7]

/-- No step, one step, and the whole text; the second text ends at the top of the address space. -/
theorem witness_TextRunsAsAStraightLine :
    [0, 1, 2].all (fun k => isNext (Sys2Proof.core.run k (twoWords .x64 0x1000)) &&
      isNext (Sys2Proof.core.run k (twoWords .x32 0xFFFFFFF8))) = true ∧
    0xFFFFFFF8 % 4 = 0 ∧ 0xFFFFFFF8 + 4 * 2 ≤ 2 ^ (twoWords .x32 0xFFFFFFF8).xbits ∧
    (twoWords .x32 0xFFFFFFF8).pcAddr = 0xFFFFFFF8 := by
  decide +kernel

theorem witness_VillMakesEveryInstructionFault :
    ({ mid with vtype := ⟨true, false, false, 0, 0⟩ } : State).vtype.vill = true := by decide

theorem witness_VectorUnitOffMakesEveryInstructionFault :
    ({ mid with vs := .off } : State).vs = .off ∧ isNext (exec (.vaddVV 4 8 6 true) mid) = true := by
  decide +kernel

/-- `vstart` 1 and the largest its bits hold, with the trap and without; a data and a mask destination. -/
theorem witness_NonzeroVstartTrapsWhereTheParameterSaysSo :
    [1, 63].all (fun n => [true, false].all fun trap =>
      let s : State := { mid with vstart := BitVec.ofNat 64 n, cfg := ⟨.x64, 6, .e64, trap⟩ }
      s.vs != .off && !s.vtype.vill && s.launchOk && s.vstart != 0 && Legal s (.vaddVV 4 8 6 true) &&
        Legal s (.vmseqVV 4 8 6 true)) = true := by
  decide +kernel

theorem witness_InstructionsCompleteExactlyWhereLegal :
    Ready mid = true ∧ Legal mid (.vaddVV 4 8 6 true) = true ∧ Legal mid (.vwaddVV 5 8 6 true) = false := by
  decide +kernel

theorem witness_InstructionsCompleteOnlyInReadyStates : isNext (exec (.vwaddVV 4 8 6 false) mid) = true := by
  decide +kernel

/-- `SEW = ELEN`, `LMUL = 8`; an extension by 2 of 8-bit elements, and one at `LMUL = 1/8`. -/
theorem witness_WidthsAndMultipliersOutOfRangeFault :
    mid.launchOk = true ∧
    (let s : State := { midWide with vl := 0, vstart := 0 }; Ready s = true ∧ s.elen < 2 * s.sew) ∧
    (let s : State := { mid with vtype := ⟨false, true, true, 0, 3⟩ }; Ready s = true ∧ s.lmul8 = 64) ∧
    (Ready mid = true ∧ mid.sew < 8 * 2) ∧
    (let s : State := { midWide with vtype := ⟨false, true, true, 0, 5⟩ }; Ready s = true ∧ s.lmul8 < 2) := by
  decide +kernel

theorem witness_MaskedInstructionsMayNotWriteOrReadV0AsData :
    Ready mid = true ∧
    (Instr.vaddVV 0 8 6 false).form.readsV0 = true ∧ (Instr.vaddVV 0 8 6 false).form.kind ≠ .mask ∧
    (Instr.vaddVV 0 8 6 false).form.vd = 0 ∧ (Instr.vmergeVVM 0 8 6).form.readsV0 = true ∧
    (Instr.vmseqVV 4 0 6 false).form.vs2 = some 0 ∧ (Instr.vmadcVVM 4 8 0).form.vs1 = some 0 := by
  decide +kernel

theorem witness_MisalignedGroupsFault :
    Ready midTwo = true ∧
    (8 < destEmul8 midTwo (.vaddVV 5 8 6 true) ∧ 5 % (destEmul8 midTwo (.vaddVV 5 8 6 true) / 8) ≠ 0) ∧
    (8 < sourceEmul8 midTwo (.vmseqVV 4 9 6 true) ∧ 9 % (sourceEmul8 midTwo (.vmseqVV 4 9 6 true) / 8) ≠ 0) ∧
    (8 < midTwo.lmul8 ∧ 7 % (midTwo.lmul8 / 8) ≠ 0) := by
  decide +kernel

theorem witness_EveryFaultCarriesTheInstructionWord :
    faultsWith 0x00218057 (exec (.vaddVV 0 2 3 false) mid) = true ∧
    faultsWith 0x422180D7 (step (midAt 0x422180D7)) = true := by
  decide +kernel

/-- A refusal happens only outside: the end of the text, a word outside the spec, a state outside R41. -/
theorem witness_NoInstructionIsRefusedInADescribedState :
    mid.Wf ∧ (match step mid with | .refused .endOfText => true | _ => false) = true ∧
    (match step (midAt 0x0C0572D7) with | .refused (.outsideTable w) => w == 0x0C0572D7 | _ => false) = true ∧
    (let s : State := { mid with vl := 9 }; s.vs ≠ .off ∧ s.vtype.vill = false ∧ s.launchOk = false) :=
  ⟨mid_wf, by decide +kernel⟩

theorem witness_OutcomeNeverDependsOnOperandValues :
    (let s : State := { mid with x := Vector.replicate 32 7, v := Vector.replicate 32 1, pc := 4, vxrm := 3 };
      s ≠ mid ∧ s.cfg = mid.cfg ∧ s.vtype = mid.vtype ∧ s.vl = mid.vl ∧ s.vstart = mid.vstart ∧ s.vs = mid.vs) := by
  decide +kernel

theorem witness_CompletionChangesOnlyTheDestination :
    isNext (exec (.vwaddVV 4 8 6 false) mid) = true ∧ isNext (exec (.vmseqVV 4 8 6 false) mid) = true := by
  decide +kernel

/-- `vl = 0`, and `vstart` equal to `vl`. -/
theorem witness_EmptyBodyWritesNoElement :
    [0, 2].all (fun n =>
      let s : State := { mid with vl := BitVec.ofNat 64 n, vstart := BitVec.ofNat 64 n }
      Ready s && s.vl.toNat ≤ s.vstart.toNat && Legal s (.vaddVV 4 8 6 true) && !Legal s (.vwaddVV 5 8 6 true)) = true := by
  decide +kernel

theorem witness_FixedPointRegistersAreNeitherReadNorWritten :
    isNext (exec (.vaddVV 4 8 6 true) mid) = true ∧ faultsWith 0x00218057 (exec (.vaddVV 0 2 3 false) mid) = true ∧
    (match exec (.vaddVV 4 8 6 true) { mid with vl := 9 } with | .refused .launchState => true | _ => false) = true := by
  decide +kernel

/-- An ordinary case, a zero divisor, and the overflow, at the least width and at 8 bits. -/
theorem witness_DivisionFunctionsAreAsTheTableSays :
    (let a : BitVec 8 := 0xF9; let b : BitVec 8 := 2; b ≠ 0 ∧ ¬ (a.toInt = -(2 ^ (8 - 1)) ∧ b.toInt = -1)) ∧
    (let a : BitVec 8 := 0x80; let b : BitVec 8 := 0xFF; a.toInt = -(2 ^ (8 - 1)) ∧ b.toInt = -1) ∧
    (let a : BitVec 1 := 1; a.toInt = -(2 ^ (1 - 1)) ∧ a.toInt = -1) ∧
    allLegal mid [.vdivuVV 4 8 6 true, .vdivuVX 4 8 10 true, .vdivVV 4 8 6 false, .vdivVX 4 8 10 true,
      .vremuVV 4 8 6 true, .vremuVX 4 8 10 true, .vremVV 4 8 6 true, .vremVX 4 8 10 true] = true := by
  decide +kernel

theorem witness_ScalarOperandIsTheLowBitsOrTheSignExtension :
    64 ≤ mid.xbits ∧ (let s : State := { mid with cfg := ⟨.x32, 6, .e64, false⟩ }; 32 ≤ s.xbits ∧ s.xbits < 64) := by
  decide

theorem witness_ElementsArePackedFromTheLowBits :
    64 ≤ mid.vlen ∧ 31 + 0 / (mid.vlen / 64) < 32 ∧ 31 + 7 / (mid.vlen / 8) < 32 ∧ 30 + 15 / (mid.vlen / 8) < 32 := by
  decide

theorem witness_MaskElementIsOneBitOfOneRegister : 31 < 32 ∧ 63 < mid.vlen ∧ mid.supported = true := by decide

/-- `VLMAX = 1`, at `SEW = ELEN = VLEN`, and `VLMAX = VLEN`, at `SEW = 8`, `LMUL = 8`. -/
theorem witness_VlmaxIsAnIntegerBetweenOneAndVlen :
    (let s : State := { mid with vtype := ⟨false, false, false, 3, 0⟩ };
      s.elen ≤ s.vlen ∧ s.supported = true ∧ s.vlmax = 1) ∧
    (let s : State := { mid with vtype := ⟨false, false, false, 0, 3⟩ };
      s.elen ≤ s.vlen ∧ s.supported = true ∧ s.vlmax = 64) := by
  decide

theorem witness_XRegisterZeroIsHardwired :
    (1 : RegNum) ≠ 0 ∧ (31 : RegNum) ≠ 0 ∧ (mid.writeX 31 5).readX 31 = 5 ∧ (mid.writeX 0 5).readX 0 = 0 := by
  decide +kernel

theorem witness_ControlRegisterViews : mid.elen ≤ mid.vlen ∧ 0xC23 ∉ [0x008, 0x009, 0x00A, 0x00F, 0xC20, 0xC21, 0xC22] := by
  decide

theorem witness_EveryStepKeepsTheStateWellFormed :
    (midAt 0x022180D7).Wf ∧ isNext (step (midAt 0x022180D7)) = true :=
  ⟨{ mid_wf with text := by decide +kernel, space := by decide +kernel }, by decide +kernel⟩

theorem witness_MoveOntoItselfLeavesBodyElements :
    allLegal mid [.vmvVV 5 5] = true ∧ allLegal { mid with vtype := ⟨false, true, false, 0, 0⟩ } [.vmvVV 5 5] = true := by
  decide +kernel

theorem witness_ChainedComparisonsAndUnderUndisturbedMask :
    (let s : State := { midZero with vtype := ⟨false, false, true, 0, 0⟩ };
      Ready s = true ∧ s.vstart = 0 ∧ s.vtype.vma = false ∧ Legal s (.vmsltVV 0 8 6 true) = true ∧
        Legal s (.vmsltVV 0 6 4 false) = true) := by
  decide +kernel

/-- The sum over an input, and apart from both. -/
theorem witness_CarryPairComputesTheFullSumAndDifference :
    [8, 4].all (fun vd => Ready mid && (1 : RegNum) != 0 && disjoint 1 8 vd mid.lmul8 && disjoint 1 8 8 mid.lmul8 &&
      disjoint 1 8 6 mid.lmul8 && Legal mid (.vmadcVVM 1 8 6) && Legal mid (.vadcVVM vd 8 6) &&
      Legal mid (.vmsbcVVM 1 8 6) && Legal mid (.vsbcVVM vd 8 6)) = true := by
  decide +kernel

theorem witness_PseudoInstructionIdioms :
    allLegal mid [.vrsubVX 4 8 0 true, .vrsubVX 4 8 0 false, .vxorVI 4 8 31 true, .vwaddVX 4 8 0 true,
      .vwadduVX 4 8 0 false, .vnsrlWX 4 8 0 true] = true := by
  decide +kernel

end Sys2Proof.Tests
end

section
/-! PROOFS. A text runs as a straight line, and the one fault carries the instruction word (00_scope.md R14, R19;
20_memory.md R61; 40_execution_model.md R122; 60_exceptions.md R330, R332, R333). First the word behind a decoded
instruction, then what a step and a run can do, then the placed text, and at the end the two statements. -/

namespace Sys2Proof

/-! ### A decoded word is the instruction's encoding, category by category (R70 to R74) -/

section
variable {n : Nat} {vm : Bool} {vs2 a vd : BitVec 5} {i : Instr}

/-- The slot that a move (`vm` = 1, `vs2` = 0) shares with a merge (`vm` = 0): R73, R87(c). It is `funct6` 0b010111,
the fifteenth arm of each of the three decoders of R70. -/
theorem moveOrMerge_eq_instr {move merge : Instr}
    (h : (if vm then (if vs2 = 0 then .instr move else .reserved) else .instr merge) = Decoded.instr i) :
    (vm = true ∧ vs2 = 0 ∧ i = move) ∨ (vm = false ∧ i = merge) := by
  cases vm with
  | true => by_cases hz : vs2 = 0 <;> simp_all
  | false => simp_all

theorem encode_of_decodeOPIVV (h : decodeOPIVV n vm vs2 a vd = .instr i) :
    encode i = pack (BitVec.ofNat 6 n) vm vs2 a 0b000 vd := by
  unfold decodeOPIVV at h
  split at h
  case h_15 => obtain ⟨rfl, rfl, rfl⟩ | ⟨rfl, rfl⟩ := moveOrMerge_eq_instr h <;> rfl
  all_goals cases vm <;> cases h <;> rfl

theorem encode_of_decodeOPIVI (h : decodeOPIVI n vm vs2 a vd = .instr i) :
    encode i = pack (BitVec.ofNat 6 n) vm vs2 a 0b011 vd := by
  unfold decodeOPIVI at h
  split at h
  case h_15 => obtain ⟨rfl, rfl, rfl⟩ | ⟨rfl, rfl⟩ := moveOrMerge_eq_instr h <;> rfl
  all_goals cases vm <;> cases h <;> rfl

theorem encode_of_decodeOPIVX (h : decodeOPIVX n vm vs2 a vd = .instr i) :
    encode i = pack (BitVec.ofNat 6 n) vm vs2 a 0b100 vd := by
  unfold decodeOPIVX at h
  split at h
  case h_15 => obtain ⟨rfl, rfl, rfl⟩ | ⟨rfl, rfl⟩ := moveOrMerge_eq_instr h <;> rfl
  all_goals cases vm <;> cases h <;> rfl

/-- R72: the sub-opcode of an extension stands in bits 19:15. -/
theorem encode_of_decodeExtension (h : decodeExtension vm vs2 a vd = .instr i) :
    encode i = pack 0b010010 vm vs2 a 0b010 vd := by
  have ha : BitVec.ofNat 5 a.toNat = a := by simp
  unfold decodeExtension at h
  split at h <;> cases h
  all_goals
    next hsub =>
      rw [← ha, hsub]
      rfl

theorem encode_of_decodeOPMVV (h : decodeOPMVV n vm vs2 a vd = .instr i) :
    encode i = pack (BitVec.ofNat 6 n) vm vs2 a 0b010 vd := by
  unfold decodeOPMVV at h
  split at h
  case h_1 => exact encode_of_decodeExtension h
  all_goals cases h <;> rfl

theorem encode_of_decodeOPMVX (h : decodeOPMVX n vm vs2 a vd = .instr i) :
    encode i = pack (BitVec.ofNat 6 n) vm vs2 a 0b110 vd := by
  unfold decodeOPMVX at h
  split at h <;> cases h <;> rfl

end

/-- No bit of a decoded word is dropped (R65, R74): each category fixes `funct6` and `funct3`, and `pack_fields` puts
the fields together again. -/
theorem encode_of_decodeWord {w : Word32} {i : Instr} (h : decodeWord w = .instr i) : encode i = w := by
  by_cases hop : opcodeOf w = 0x57#7
  · have h6 : BitVec.ofNat 6 (funct6Of w).toNat = funct6Of w := by simp
    have h3 : BitVec.ofNat 3 (funct3Of w).toNat = funct3Of w := by simp
    rw [← pack_fields w hop, ← h6, ← h3]
    unfold decodeWord at h
    rw [if_pos hop] at h
    split at h
    case h_1 hf => rw [hf]; exact encode_of_decodeOPIVV h
    case h_2 hf => rw [hf]; exact encode_of_decodeOPMVV h
    case h_3 hf => rw [hf]; exact encode_of_decodeOPIVI h
    case h_4 hf => rw [hf]; exact encode_of_decodeOPIVX h
    case h_5 hf => rw [hf]; exact encode_of_decodeOPMVX h
    case h_6 => cases h
  · rw [decodeWord, if_neg hop] at h
    cases h

end Sys2Proof

namespace Sys2Proof.Machine

/-! ### What an instruction, a step and a run can do -/

theorem exec_next_frame {i : Instr} {s t : State} (h : exec i s = .next t) : Frame s t := by
  obtain ⟨v, hexec⟩ := exec_guarded i s
  obtain ⟨-, -, rfl⟩ := (guarded_next s _ _ _ t).mp (hexec ▸ h)
  exact frame_complete s v

theorem exec_fault_eq {i : Instr} {s : State} {f : Fault} (h : exec i s = .fault f) :
    f = .illegalInstruction (encode i) := by
  obtain ⟨v, hexec⟩ := exec_guarded i s
  rw [hexec] at h
  rcases guarded_cases s (encode i) (s.shapeOf i.form) (s.complete v) with hnext | hraise | hrefused
  · cases hnext.symm.trans h
  · cases hraise.symm.trans h
    rfl
  · cases hrefused.symm.trans h

/-- Everything a step can do: the fetch is refused, or the word at `pc` is run, raised or refused (R74, R87, R89). -/
theorem step_cases (s : State) :
    (∃ r, s.fetch = .error r ∧ step s = .refused r) ∨
    ∃ w, s.fetch = .ok w ∧
      ((∃ i, decodeWord w = .instr i ∧ step s = exec i s) ∨
       (decodeWord w = .reserved ∧ step s = raise w) ∨
       (decodeWord w = .outside ∧ step s = .refused (.outsideTable w)) ∨
       (decodeWord w = .short ∧ step s = .refused .endOfText)) := by
  cases hfetch : s.fetch with
  | error r => exact .inl ⟨r, rfl, by simp [step, hfetch]⟩
  | ok w =>
    refine .inr ⟨w, rfl, ?_⟩
    cases hdec : decodeWord w <;> simp [step, hfetch, hdec]

theorem step_next_frame {s t : State} (h : step s = .next t) : Frame s t := by
  obtain ⟨r, -, hs⟩ | ⟨w, -, ⟨i, -, hs⟩ | ⟨-, hs⟩ | ⟨-, hs⟩ | ⟨-, hs⟩⟩ := step_cases s
  case inr.inl => exact exec_next_frame (hs ▸ h)
  all_goals cases hs.symm.trans h

theorem Frame.xbits {s t : State} (h : Frame s t) : t.xbits = s.xbits := by
  unfold State.xbits
  rw [h.cfg]

/-- R22, R122: the next instruction is four bytes on. -/
theorem Frame.pcAddr {s t : State} (h : Frame s t) : t.pcAddr = (s.pcAddr + 4) % 2 ^ s.xbits := by
  unfold State.pcAddr
  rw [h.xbits, h.pc, Nat.mod_mod, Nat.mod_add_mod]

theorem run_succ_next {M : Host.Core} {k : Nat} {s t : M.State} (h : M.run (k + 1) s = .next t) :
    ∃ u, M.step s = .next u ∧ M.run k u = .next t := by
  unfold Host.Core.run at h
  split at h
  case h_1 u hstep => exact ⟨u, hstep, h⟩
  all_goals cases h

/-- R122, R61: `k` completed steps move `pc` on by `4k` and change no byte of the address space. -/
theorem run_next {k : Nat} {s t : State} (h : Sys2Proof.core.run k s = .next t) :
    t.pcAddr = (s.pcAddr + 4 * k) % 2 ^ s.xbits ∧ ∀ a, t.readByte a = s.readByte a := by
  induction k generalizing s with
  | zero =>
    cases h
    exact ⟨by simp [State.pcAddr], fun _ => rfl⟩
  | succ k ih =>
    obtain ⟨u, hstep, hrun⟩ := run_succ_next h
    have hframe := step_next_frame hstep
    obtain ⟨hpc, hmem⟩ := ih hrun
    refine ⟨?_, fun a => (hmem a).trans (hframe.mem a)⟩
    rw [hpc, hframe.xbits, hframe.pcAddr, Nat.mod_add_mod]
    congr 1
    omega

/-! ### Placed text -/

/-- The four bytes from `a` upwards are those of `w`, little-endian (R52). -/
def State.HoldsWord (s : State) (a : Nat) (w : Word32) : Prop :=
  ∀ j < 4, s.readByte (a + j) = some (w.extractLsb' (8 * j) 8)

theorem fetch_of_holdsWord {s : State} {w : Word32} (halign : s.pcAddr % 4 = 0) (h : s.HoldsWord s.pcAddr w) :
    s.fetch = .ok w := by
  have h0 := h 0 (by decide)
  have h1 := h 1 (by decide)
  have h2 := h 2 (by decide)
  have h3 := h 3 (by decide)
  rw [Nat.add_zero] at h0
  simp [State.fetch, halign, h0, h1, h2, h3, wordOfBytes_bytes]

theorem holdsWord_storeWord (s : State) (a : Nat) (w : Word32) : (s.storeWord a w).HoldsWord a w := by
  intro j hj
  rw [readByte_storeWord]
  interval_cases j <;> simp

@[simp] theorem loadText_xbits (ws : List Word32) (s : State) (base : Nat) : (s.loadText base ws).xbits = s.xbits := by
  induction ws generalizing s base with
  | nil => rfl
  | cons w ws ih => exact ih _ _

@[simp] theorem loadText_pcAddr (ws : List Word32) (s : State) (base : Nat) :
    (s.loadText base ws).pcAddr = s.pcAddr := by
  induction ws generalizing s base with
  | nil => rfl
  | cons w ws ih => exact ih _ _

theorem readByte_loadText_below (ws : List Word32) (s : State) (base a : Nat) (ha : a < base) :
    (s.loadText base ws).readByte a = s.readByte a := by
  induction ws generalizing s base with
  | nil => rfl
  | cons w ws ih =>
    calc (s.loadText base (w :: ws)).readByte a
        = (s.storeWord base w).readByte a := ih _ _ (by omega)
      _ = s.readByte a := by
        rw [readByte_storeWord, if_neg (by omega), if_neg (by omega), if_neg (by omega), if_neg (by omega)]

/-- R19, R52: word `k` of a placed text stands at `base + 4k`; the words after it are placed above it. -/
theorem holdsWord_loadText (ws : List Word32) (s : State) (base k : Nat) (hk : k < ws.length) :
    (s.loadText base ws).HoldsWord (base + 4 * k) ws[k] := by
  induction ws generalizing s base k with
  | nil => cases hk
  | cons w ws ih =>
    cases k with
    | zero =>
      intro j hj
      exact (readByte_loadText_below ws _ _ _ (by omega)).trans (holdsWord_storeWord s base w j hj)
    | succ k =>
      have hrest := ih (s.storeWord base w) (base + 4) k (Nat.lt_of_succ_lt_succ hk)
      rwa [show base + 4 + 4 * k = base + 4 * (k + 1) by omega] at hrest

/-! ### The statements -/

/-- Settles O12: a run moves `pc` word by word and keeps the text, and the text holds word `k` at `base + 4k`. -/
theorem textRunsAsAStraightLine : Obligations.TextRunsAsAStraightLine := by
  intro s base ws k t halign hspace hpc hk hrun
  obtain ⟨hpc', hmem⟩ := run_next hrun
  rw [loadText_pcAddr, loadText_xbits, hpc] at hpc'
  refine ⟨hpc', hmem, fun hlt => ?_⟩
  have haddr : t.pcAddr = base + 4 * k := by rw [hpc', Nat.mod_eq_of_lt (by omega)]
  apply fetch_of_holdsWord
  · omega
  · intro j hj
    rw [haddr, hmem]
    exact holdsWord_loadText ws s base k hlt j hj

/-- Settles O21: an instruction raises only through its checks, with its own encoding (log 10), and the encoding of a
decoded word is that word; a reserved word is raised as it was fetched. -/
theorem everyFaultCarriesTheInstructionWord : Obligations.EveryFaultCarriesTheInstructionWord := by
  refine ⟨fun _ _ _ => exec_fault_eq, fun s f h => ?_⟩
  obtain ⟨r, -, hs⟩ | ⟨w, hfetch, ⟨i, hdec, hs⟩ | ⟨-, hs⟩ | ⟨-, hs⟩ | ⟨-, hs⟩⟩ := step_cases s
  case inr.inl => exact ⟨w, hfetch, encode_of_decodeWord hdec ▸ exec_fault_eq (hs ▸ h)⟩
  case inr.inr.inl =>
    cases hs.symm.trans h
    exact ⟨w, hfetch, rfl⟩
  all_goals cases hs.symm.trans h

end Sys2Proof.Machine
end

section
/-! PROOFS. The state: where an element, a mask bit and a field of a control register live, what a completed
instruction leaves in the vector registers, and the invariant that every step keeps (10_state.md R20 to R42;
20_memory.md R53, R54, R61; 30_encoding.md R89; 60_exceptions.md R331). First the rules of the state's operations, then
the checks and the instructions, then the step, and at the end the statements. -/

namespace Sys2Proof

theorem decodeWord_ne_short (w : Word32) : decodeWord w ≠ .short := by
  unfold decodeWord decodeOPIVV decodeOPIVI decodeOPIVX decodeOPMVV decodeOPMVX decodeExtension
  repeat' split
  all_goals nofun

end Sys2Proof

namespace Sys2Proof.Machine

open Sys2Proof.Statements

/-! ### Scalar registers (R20, R22) -/

@[simp] theorem writeX_xbits (s : State) (r : RegNum) (a : XWord) : (s.writeX r a).xbits = s.xbits := by
  unfold State.xbits
  rw [writeX_cfg]

theorem toXlen_toNat (s : State) (a : XWord) : (s.toXlen a).toNat = a.toNat % 2 ^ s.xbits :=
  (BitVec.toNat_ofNat _ _).trans (Nat.mod_eq_of_lt ((Nat.mod_le _ _).trans_lt a.isLt))

theorem readX_of_ne (s : State) {r : RegNum} (hr : r ≠ 0) : s.readX r = s.toXlen (s.x[r.toNat]'r.isLt) := if_neg hr

theorem writeX_of_ne (s : State) {r : RegNum} (hr : r ≠ 0) (a : XWord) :
    s.writeX r a = { s with x := s.x.set r.toNat (s.toXlen a) r.isLt } := if_neg hr

theorem readX_writeX_same (s : State) {r : RegNum} (hr : r ≠ 0) (a : XWord) :
    ((s.writeX r a).readX r).toNat = a.toNat % 2 ^ s.xbits := by
  rw [readX_of_ne _ hr, toXlen_toNat, writeX_xbits]
  simp [writeX_of_ne s hr, toXlen_toNat]

theorem readX_writeX_ne (s : State) {r r' : RegNum} (hne : r' ≠ r) (a : XWord) :
    (s.writeX r a).readX r' = s.readX r' := by
  have hnat : r.toNat ≠ r'.toNat := fun h => hne (BitVec.eq_of_toNat_eq h.symm)
  by_cases hr : r = 0
  · rw [hr, writeX_zero]
  · rw [writeX_of_ne s hr]
    by_cases hr' : r' = 0
    · rw [hr', readX_zero, readX_zero]
    · simp only [readX_of_ne _ hr', Vector.getElem_set_ne _ _ hnat]
      rfl

/-- R54: 4 divides `2^XLEN`, so the wrap of `pc + 4` keeps the alignment. -/
theorem Frame.pc_wf {s t : State} (h : Frame s t) (ha : s.pc.toNat % 4 = 0) :
    t.pc.toNat < 2 ^ s.xbits ∧ t.pc.toNat % 4 = 0 := by
  rw [h.pc]
  rcases xbits_cases s with hx | hx <;> rw [hx] <;> omega

/-! ### Vector registers (R23, R25, R53) -/

theorem regOf_fin (v : Vector VWord 32) (r : Fin 32) : regOf v r = v[r] := by simp [regOf]

theorem toNat_lt_two_pow_iff {w : Nat} (x : BitVec w) (n : Nat) :
    x.toNat < 2 ^ n ↔ ∀ b, n ≤ b → x.getLsbD b = false := by
  constructor
  · intro h b hb
    exact Nat.testBit_lt_two_pow (h.trans_le (Nat.pow_le_pow_right (by decide) hb))
  · exact fun h => Nat.lt_pow_two_of_testBit _ h

/-- R25: every bit of every register after a write of element `i`. -/
theorem getLsbD_setElem (vlen : Nat) (v : Vector VWord 32) (r w i : Nat) (val : BitVec w) (k b : Nat)
    (hv : vlen ≤ maxVlen) (he : 0 < vlen / w) :
    (regOf (setElem vlen v r w i val) k).getLsbD b =
      if (k = r + i / (vlen / w) ∧ k < 32) ∧ w * (i % (vlen / w)) ≤ b ∧ b < w * (i % (vlen / w)) + w
      then val.getLsbD (b - w * (i % (vlen / w))) else (regOf v k).getLsbD b := by
  by_cases hb : b < vlen
  · unfold setElem
    rw [regOf_setIfInBounds]
    by_cases hk : k = r + i / (vlen / w) ∧ k < 32
    · obtain ⟨rfl, hreg⟩ := hk
      simp [hreg, getLsbD_setField _ _ _ _ (hb.trans_le hv)]
    · rw [if_neg (by omega), if_neg (by omega)]
  · have hle := elem_bits_le vlen w i he
    rw [regOf_setElem_high vlen v r w i val k b he (by omega), if_neg (by omega)]

/-- Byte `c` of element `i`, with `k` bytes to an element and `E` elements to a register: its register, and its place
there. -/
theorem byte_index (E k i c : Nat) (hc : c < k) :
    (i * k + c) / (k * E) = i / E ∧ (i * k + c) % (k * E) = k * (i % E) + c := by
  have hdiv : (i * k + c) / k = i := by
    rw [Nat.add_comm, Nat.add_mul_div_right _ _ (by omega), Nat.div_eq_of_lt hc, Nat.zero_add]
  have hmod : (i * k + c) % k = c := by
    rw [Nat.add_comm, Nat.add_mul_mod_self_right, Nat.mod_eq_of_lt hc]
  constructor
  · rw [← Nat.div_div_eq_div_mul, hdiv]
  · rw [Nat.mod_mul, hmod, hdiv, Nat.add_comm]

/-- R53: an element of `k` bytes, `E` of them to a register, is its byte elements, low first. -/
theorem elemOf_bit_eq_byte_bit (v : Vector VWord 32) (r k i b E : Nat) (hb : b < 8 * k) :
    (elemOf (8 * k * E) v r (8 * k) i).getLsbD b = (elemOf (8 * k * E) v r 8 (i * k + b / 8)).getLsbD (b % 8) := by
  have hE : 8 * k * E / (8 * k) = E := Nat.mul_div_cancel_left E (by omega)
  have hkE : 8 * k * E / 8 = k * E := by rw [Nat.mul_assoc, Nat.mul_div_cancel_left _ (by decide)]
  obtain ⟨hreg, hplace⟩ := byte_index E k i (b / 8) (by omega)
  have hbit : 8 * (k * (i % E) + b / 8) + b % 8 = 8 * k * (i % E) + b := by
    rw [Nat.mul_add, ← Nat.mul_assoc, Nat.add_assoc, Nat.div_add_mod]
  rw [elemOf_getLsbD, elemOf_getLsbD, hE, hkE, hreg, hplace, hbit]
  simp [hb, Nat.mod_lt]

/-! ### VLMAX (R29 to R31) -/

theorem lmul8_two_pow {s : State} (h : s.supported = true) : ∃ a, s.lmul8 = 2 ^ a := by
  rcases lmul8_cases s h with h | h | h | h | h | h | h
  exacts [⟨0, h⟩, ⟨1, h⟩, ⟨2, h⟩, ⟨3, h⟩, ⟨4, h⟩, ⟨5, h⟩, ⟨6, h⟩]

/-- R31: an element is no wider than its group, a fraction of a register included. -/
theorem sew_le_group {s : State} (hle : s.elen ≤ s.vlen) (h : s.supported = true) :
    8 * s.sew ≤ s.lmul8 * s.vlen := by
  have hsew := sew_le_elen s h
  obtain hl | hl : 8 ≤ s.lmul8 ∨ 8 * s.sew ≤ s.lmul8 * s.elen := by
    simp only [State.supported, Bool.and_eq_true, Bool.or_eq_true, decide_eq_true_eq] at h
    exact h.2
  · exact Nat.mul_le_mul hl (hsew.trans hle)
  · exact hl.trans (Nat.mul_le_mul_left _ hle)

/-- R30: `LMUL`, `VLEN` and `SEW` are powers of two, so `SEW` divides the bits of a group it does not exceed. -/
theorem sew_dvd_group {s : State} (hle : s.elen ≤ s.vlen) (h : s.supported = true) :
    8 * s.sew ∣ s.lmul8 * s.vlen := by
  obtain ⟨a, ha⟩ := lmul8_two_pow h
  have hgroup : s.lmul8 * s.vlen = 2 ^ (a + s.cfg.lgVlen.val) := by rw [ha, pow_add]; rfl
  have hsew : 8 * s.sew = 2 ^ (6 + s.vtype.vsew.toNat) := by unfold State.sew; rw [pow_add]; omega
  have hbits := sew_le_group hle h
  rw [hgroup, hsew] at hbits ⊢
  exact Nat.pow_dvd_pow 2 ((Nat.pow_le_pow_iff_right (by decide)).mp hbits)

/-! ### Control registers (R28, R35 to R37) -/

theorem vtypeWord_toNat (s : State) :
    s.vtypeWord.toNat = 2 ^ (s.xbits - 1) * s.vtype.vill.toNat + (2 ^ 7 * s.vtype.vma.toNat +
      (2 ^ 6 * s.vtype.vta.toNat + (2 ^ 3 * s.vtype.vsew.toNat + s.vtype.vlmul.toNat))) := by
  have hvill := s.vtype.vill.toNat_le
  have hvma := s.vtype.vma.toNat_le
  have hvta := s.vtype.vta.toNat_le
  have hvsew := s.vtype.vsew.isLt
  have hvlmul := s.vtype.vlmul.isLt
  unfold State.vtypeWord
  rw [BitVec.toNat_ofNat]
  rcases xbits_cases s with hx | hx <;> rw [hx] <;> omega

/-- The fields lie one above the other, so each bit of the word is a bit of one of them. -/
theorem getLsbD_vtypeWord (s : State) (b : Nat) :
    s.vtypeWord.getLsbD b =
      if b < s.xbits - 1 then
        if b < 7 then
          if b < 6 then if b < 3 then s.vtype.vlmul.getLsbD b else s.vtype.vsew.getLsbD (b - 3)
          else decide (b - 6 = 0) && s.vtype.vta
        else decide (b - 7 = 0) && s.vtype.vma
      else decide (b - (s.xbits - 1) = 0) && s.vtype.vill := by
  have hvma := s.vtype.vma.toNat_le
  have hvta := s.vtype.vta.toNat_le
  have hvsew := s.vtype.vsew.isLt
  have hvlmul := s.vtype.vlmul.isLt
  have hx : 31 ≤ s.xbits - 1 := by rcases xbits_cases s with h | h <;> omega
  have hspace : 2 ^ 31 ≤ 2 ^ (s.xbits - 1) := Nat.pow_le_pow_right (by decide) hx
  rw [BitVec.getLsbD, vtypeWord_toNat, Nat.testBit_two_pow_mul_add _ (by omega),
    Nat.testBit_two_pow_mul_add _ (by omega), Nat.testBit_two_pow_mul_add _ (by omega),
    Nat.testBit_two_pow_mul_add _ hvlmul]
  simp only [Nat.testBit_bool_toNat, BitVec.getLsbD]

theorem vtypeWord_fields (s : State) :
    s.vtypeWord.extractLsb' 0 3 = s.vtype.vlmul ∧ s.vtypeWord.extractLsb' 3 3 = s.vtype.vsew ∧
    s.vtypeWord.getLsbD 6 = s.vtype.vta ∧ s.vtypeWord.getLsbD 7 = s.vtype.vma ∧
    s.vtypeWord.getLsbD (s.xbits - 1) = s.vtype.vill ∧
    ∀ b, 8 ≤ b → b ≠ s.xbits - 1 → s.vtypeWord.getLsbD b = false := by
  have hx : 31 ≤ s.xbits - 1 := by rcases xbits_cases s with h | h <;> omega
  refine ⟨?_, ?_, ?_, ?_, ?_, fun b hb hne => ?_⟩
  · refine BitVec.eq_of_getLsbD_eq fun b hb => ?_
    rw [BitVec.getLsbD_extractLsb', getLsbD_vtypeWord, if_pos (by omega), if_pos (by omega), if_pos (by omega),
      if_pos (by omega)]
    simp [hb]
  · refine BitVec.eq_of_getLsbD_eq fun b hb => ?_
    rw [BitVec.getLsbD_extractLsb', getLsbD_vtypeWord, if_pos (by omega), if_pos (by omega), if_pos (by omega),
      if_neg (by omega)]
    simp [hb]
  · rw [getLsbD_vtypeWord, if_pos (by omega)]
    simp
  · rw [getLsbD_vtypeWord, if_pos (by omega)]
    simp
  · rw [getLsbD_vtypeWord, if_neg (by omega)]
    simp
  · rw [getLsbD_vtypeWord, if_neg (show ¬ b < 7 by omega), decide_eq_false (show b - 7 ≠ 0 by omega)]
    split
    · rfl
    · rw [decide_eq_false (by omega), Bool.false_and]

/-- R36: a register holds a whole number of bytes, since it holds an element. -/
theorem vlenb_toNat (s : State) (hle : s.elen ≤ s.vlen) : 8 * s.vlenb.toNat = s.vlen := by
  have hmax : s.vlen ≤ 65536 := vlen_le s
  have helen : 8 ≤ s.elen := by rcases elen_cases s with h | h | h | h <;> omega
  have hdvd : 8 ∣ s.vlen := width_dvd_vlen s 8 (.inl rfl) (helen.trans hle)
  unfold State.vlenb
  rw [BitVec.toNat_ofNat, Nat.mod_eq_of_lt (by omega), Nat.mul_div_cancel' hdvd]

theorem readCsr_of_unlisted (s : State) {n : Nat} (h : n ∉ [0x008, 0x009, 0x00A, 0x00F, 0xC20, 0xC21, 0xC22]) :
    s.readCsr n = none := by
  unfold State.readCsr
  split
  case h_8 => rfl
  all_goals exact absurd (by decide) h

theorem map_toNat_some_setWidth {w : Nat} (x : BitVec w) (hw : w ≤ 64) :
    (some (x.setWidth 64)).map BitVec.toNat = some x.toNat :=
  congrArg some (BitVec.toNat_setWidth_of_le hw)

/-- The state with the fixed-point registers `vxrm` and `vxsat` replaced (R35). -/
def State.withFixedPoint (s : State) (m : BitVec 2) (q : BitVec 1) : State := { s with vxrm := m, vxsat := q }

/-! ### The checks of R100 -/

theorem guarded_off {s : State} (word : Word32) (h : Shape) (t : State) (hoff : s.vs = .off) :
    s.guarded word h t = raise word := if_pos hoff

/-- Log 8: the checks refuse exactly outside R41, and by that one name. -/
theorem guarded_refused (s : State) (word : Word32) (h : Shape) (t : State) (r : Refusal) :
    s.guarded word h t = .refused r ↔
      s.vs ≠ .off ∧ s.vtype.vill = false ∧ s.launchOk = false ∧ r = .launchState := by
  unfold State.guarded raise
  split_ifs <;> simp_all [@eq_comm _ r]

/-- The answer with its next state, where it has one, changed by `g`. -/
def mapNext (g : State → State) : Result → Result
  | .next t => .next (g t)
  | .fault f => .fault f
  | .refused r => .refused r

theorem guarded_withFixedPoint (s : State) (m : BitVec 2) (q : BitVec 1) (word : Word32) (h : Shape) (t : State) :
    (s.withFixedPoint m q).guarded word h (t.withFixedPoint m q) =
      mapNext (·.withFixedPoint m q) (s.guarded word h t) := by
  simp only [State.guarded, apply_ite (mapNext _)]
  rfl

/-! ### What an instruction does -/

theorem exec_off {i : Instr} {s : State} (hoff : s.vs = .off) : exec i s = raise (encode i) := by
  obtain ⟨v, hexec⟩ := exec_guarded i s
  rw [hexec, guarded_off _ _ _ hoff]

theorem exec_refused (i : Instr) (s : State) (r : Refusal) :
    exec i s = .refused r ↔ s.vs ≠ .off ∧ s.vtype.vill = false ∧ s.launchOk = false ∧ r = .launchState := by
  obtain ⟨v, hexec⟩ := exec_guarded i s
  rw [hexec, guarded_refused]

/-- The element loop computes one register file `v`, whatever `vxrm` and `vxsat` hold. -/
theorem exec_same_file (i : Instr) (s : State) (m : BitVec 2) (q : BitVec 1) :
    ∃ v, exec i s = s.guarded (encode i) (s.shapeOf i.form) (s.complete v) ∧
      exec i (s.withFixedPoint m q) =
        (s.withFixedPoint m q).guarded (encode i) (s.shapeOf i.form) ((s.complete v).withFixedPoint m q) := by
  cases i <;> exact ⟨_, rfl, rfl⟩

theorem exec_withFixedPoint (i : Instr) (s : State) (m : BitVec 2) (q : BitVec 1) :
    exec i (s.withFixedPoint m q) = mapNext (·.withFixedPoint m q) (exec i s) := by
  obtain ⟨v, hs, hs'⟩ := exec_same_file i s m q
  rw [hs', guarded_withFixedPoint, hs]

/-- The register file `v` is what the loop of the instruction's kind of destination leaves (R116 to R118), at the
width and the multiplier of R101. -/
def DestWritten (s : State) (i : Instr) (v : Vector VWord 32) : Prop :=
  match i.form.kind with
  | .mask => ∃ active f, v = s.writeMask i.form.vd.toNat active f
  | _ => ∃ active f, v = s.writeData i.form.vd.toNat (destEew s i) (destEmul8 s i) active f

theorem destWritten_mask {s : State} {i : Instr} {v : Vector VWord 32} (h : DestWritten s i v)
    (hk : i.form.kind = .mask) : ∃ active f, v = s.writeMask i.form.vd.toNat active f := by
  unfold DestWritten at h
  rwa [hk] at h

theorem destWritten_data {s : State} {i : Instr} {v : Vector VWord 32} (h : DestWritten s i v)
    (hk : i.form.kind ≠ .mask) :
    ∃ active f, v = s.writeData i.form.vd.toNat (destEew s i) (destEmul8 s i) active f := by
  unfold DestWritten at h
  split at h
  case h_1 hmask => exact absurd hmask hk
  case h_2 => exact h

theorem exec_destWritten (i : Instr) (s : State) :
    ∃ v, exec i s = s.guarded (encode i) (s.shapeOf i.form) (s.complete v) ∧ DestWritten s i v := by
  cases i <;> exact ⟨_, rfl, Exists.intro _ (Exists.intro _ rfl)⟩

/-- Everything a completed instruction says of its two states (R100, R120). -/
theorem exec_next {i : Instr} {s t : State} (h : exec i s = .next t) :
    Ready s = true ∧ Legal s i = true ∧ ∃ v, DestWritten s i v ∧ t = s.complete v := by
  obtain ⟨v, hexec, hv⟩ := exec_destWritten i s
  obtain ⟨hready, hlegal, rfl⟩ := (guarded_next s _ _ _ t).mp (hexec ▸ h)
  obtain ⟨-, -, hlaunch, -⟩ := (ready_iff s).mp hready
  exact ⟨hready, shapeOf_legal_instr i s hlaunch ▸ hlegal, v, hv, rfl⟩

/-- The data destination of a legal instruction fits the register file and holds `vl` elements, at whichever of the
two widths it has (R24, R30, R103, R105). -/
theorem data_dest_fits {s : State} {i : Instr} (hc : s.launchOk = true) (hl : Legal s i = true)
    (hk : i.form.kind ≠ .mask) :
    0 < destEew s i ∧ destEew s i ∣ s.vlen ∧ i.form.vd.toNat + regCount (destEmul8 s i) ≤ 32 ∧
      s.vl.toNat ≤ regCount (destEmul8 s i) * s.vlen / destEew s i := by
  unfold destEew destEmul8
  cases hkind : i.form.kind
  case mask => exact absurd hkind hk
  case widen | widenMac | widenWide =>
    obtain ⟨hsew, hlmul, halign⟩ := legal_wide s i hl (by simp [hkind])
    exact wide_fits s hc i.form.vd hsew hlmul halign
  all_goals exact single_fits s hc i.form.vd (legal_single s i hl (by simp [hkind]))

/-- R107 to R113 for every instruction that completes, with a mask and with a data destination. -/
theorem exec_next_dest {i : Instr} {s t : State} (h : exec i s = .next t) :
    (i.form.kind = .mask → ∃ active f, MaskDest s t i.form.vd active f) ∧
    (i.form.kind ≠ .mask → ∃ active f, DataDest s t i.form.vd (destEew s i) (destEmul8 s i) active f) := by
  obtain ⟨hready, hlegal, v, hv, rfl⟩ := exec_next h
  obtain ⟨-, -, hlaunch, -⟩ := (ready_iff s).mp hready
  constructor
  · intro hk
    obtain ⟨active, f, rfl⟩ := destWritten_mask hv hk
    obtain ⟨-, hsupported, hvl, -⟩ := (launchOk_iff s).mp hlaunch
    exact ⟨active, f, maskDest_writeMask s _ _ _ (hvl.trans (vlmax_le_vlen s hsupported))⟩
  · intro hk
    obtain ⟨active, f, rfl⟩ := destWritten_data hv hk
    obtain ⟨hpos, hdvd, hend, hvl⟩ := data_dest_fits hlaunch hlegal hk
    exact ⟨active, f, dataDest_writeData s _ _ _ _ _ hpos hdvd hend hvl⟩

theorem exec_next_high {i : Instr} {s t : State} (h : exec i s = .next t) (r b : Nat) (hb : s.vlen ≤ b) :
    (regOf t.v r).getLsbD b = (regOf s.v r).getLsbD b := by
  obtain ⟨hmask, hdata⟩ := exec_next_dest h
  by_cases hk : i.form.kind = .mask
  · obtain ⟨_, _, hdest⟩ := hmask hk
    exact hdest.high r b hb
  · obtain ⟨_, _, hdest⟩ := hdata hk
    exact hdest.high r b hb

/-- R23: a register file within `VLEN` bits stays so, since no instruction writes the bits above. -/
theorem exec_next_vWidth {i : Instr} {s t : State} (h : exec i s = .next t)
    (hs : ∀ r : Fin 32, s.v[r].toNat < 2 ^ s.vlen) (r : Fin 32) : t.v[r].toNat < 2 ^ s.vlen := by
  rw [toNat_lt_two_pow_iff]
  intro b hb
  calc t.v[r].getLsbD b = (regOf t.v r).getLsbD b := by rw [regOf_fin]
    _ = (regOf s.v r).getLsbD b := exec_next_high h r b hb
    _ = s.v[r].getLsbD b := by rw [regOf_fin]
    _ = false := (toNat_lt_two_pow_iff _ _).mp (hs r) b hb

/-! ### The invariant -/

theorem reset_wf : State.reset.Wf where
  params := by decide
  x0 := by decide
  xWidth := by decide
  pcWidth := by decide
  pcAligned := by decide
  vWidth r := (toNat_lt_two_pow_iff _ _).mpr fun b _ => by simp [State.reset]
  config _ := by decide
  vstart := vlen_pos _
  text := reset_text
  space := rfl

/-- Completion writes `pc`, `v` and `vstart`; every other field the invariant speaks of stays as it was. -/
theorem complete_wf {s : State} {v : Vector VWord 32} (hs : s.Wf) (hv : ∀ r : Fin 32, v[r].toNat < 2 ^ s.vlen) :
    (s.complete v).Wf := by
  obtain ⟨hpcWidth, hpcAligned⟩ := (frame_complete s v).pc_wf hs.pcAligned
  exact { hs with
    pcWidth := hpcWidth
    pcAligned := hpcAligned
    vWidth := hv
    vstart := vlen_pos s }

theorem exec_keeps_wf {i : Instr} {s t : State} (hs : s.Wf) (h : exec i s = .next t) : t.Wf := by
  have hv := exec_next_vWidth h hs.vWidth
  obtain ⟨-, -, v, -, rfl⟩ := exec_next h
  exact complete_wf hs hv

theorem launchOk_of_wf {s : State} (hs : s.Wf) (hvill : s.vtype.vill = false) : s.launchOk = true := by
  obtain ⟨hsupported, hvl⟩ := hs.config hvill
  exact (launchOk_iff s).mpr ⟨hs.params, hsupported, hvl, hs.vstart⟩

theorem exec_ne_refused_of_wf {s : State} (hs : s.Wf) (i : Instr) (r : Refusal) : exec i s ≠ .refused r := by
  rw [Ne, exec_refused]
  rintro ⟨-, hvill, hlaunch, -⟩
  exact absurd (launchOk_of_wf hs hvill) (by simp [hlaunch])

/-! ### The step -/

theorem step_next {s t : State} (h : step s = .next t) : ∃ i, exec i s = .next t := by
  obtain ⟨r, -, hs⟩ | ⟨w, -, ⟨i, -, hs⟩ | ⟨-, hs⟩ | ⟨-, hs⟩ | ⟨-, hs⟩⟩ := step_cases s
  case inr.inl => exact ⟨i, hs ▸ h⟩
  all_goals cases hs.symm.trans h

theorem fetch_error_of_aligned {s : State} {r : Refusal} (ha : s.pcAddr % 4 = 0) (h : s.fetch = .error r) :
    r = .endOfText := by
  unfold State.fetch at h
  rw [if_pos ha] at h
  split at h <;> cases h
  rfl

theorem pcAddr_of_wf {s : State} (hs : s.Wf) : s.pcAddr = s.pc.toNat := Nat.mod_eq_of_lt hs.pcWidth

/-- R89, R19: what is left of the refusals of `step_cases` when `pc` is aligned and the state meets R41. -/
theorem step_refused_of_wf {s : State} {r : Refusal} (hs : s.Wf) (h : step s = .refused r) :
    (r = .endOfText ∧ s.fetch = .error .endOfText) ∨
      ∃ w, r = .outsideTable w ∧ s.fetch = .ok w ∧ decodeWord w = .outside := by
  obtain ⟨r', hfetch, hstep⟩ | ⟨w, hfetch, ⟨i, -, hstep⟩ | ⟨-, hstep⟩ | ⟨hdec, hstep⟩ | ⟨hdec, -⟩⟩ := step_cases s
  · cases hstep.symm.trans h
    obtain rfl := fetch_error_of_aligned (pcAddr_of_wf hs ▸ hs.pcAligned) hfetch
    exact .inl ⟨rfl, hfetch⟩
  · exact absurd (hstep ▸ h) (exec_ne_refused_of_wf hs i r)
  · cases hstep.symm.trans h
  · cases hstep.symm.trans h
    exact .inr ⟨w, rfl, hfetch, hdec⟩
  · exact absurd hdec (decodeWord_ne_short w)

/-! ### The statements -/

/-- Settles O56: a step that answers a next state completes an instruction, and completing keeps the invariant because
the loops write no bit above `VLEN`. -/
theorem everyStepKeepsTheStateWellFormed : Obligations.EveryStepKeepsTheStateWellFormed := by
  intro s t hs h
  obtain ⟨i, hexec⟩ := step_next h
  exact exec_keeps_wf hs hexec

/-- Settles O14: Off is the first check of R100, and an instruction that completes has passed it. -/
theorem vectorUnitOffMakesEveryInstructionFault : Obligations.VectorUnitOffMakesEveryInstructionFault := by
  refine ⟨fun i s => exec_off, fun i s t h => ?_⟩
  obtain ⟨hready, -, -⟩ := exec_next h
  obtain ⟨hon, -⟩ := (ready_iff s).mp hready
  exact ⟨hon, (exec_next_frame h).vs⟩

/-- Settles O22: an instruction is refused exactly outside R41, which the invariant rules out; the fetch and the decoder
leave the two refusals of a step. -/
theorem noInstructionIsRefusedInADescribedState : Obligations.NoInstructionIsRefusedInADescribedState :=
  ⟨fun i _ r hs => exec_ne_refused_of_wf hs i r, fun _ _ => step_refused_of_wf,
    fun i s hon hvill hlaunch => (exec_refused i s _).mpr ⟨hon, hvill, hlaunch, rfl⟩⟩

/-- Settles O26: replacing `vxrm` and `vxsat` commutes with every instruction. -/
theorem fixedPointRegistersAreNeitherReadNorWritten : Obligations.FixedPointRegistersAreNeitherReadNorWritten := by
  intro i s m q
  have hcommutes := exec_withFixedPoint i s m q
  refine ⟨fun t h => ?_, fun f h => ?_, fun r h => ?_⟩
  all_goals
    rw [h] at hcommutes
    exact hcommutes

/-- Settles O50: the bits of a written element by `getLsbD_setElem`, and the byte view of an element of `k` bytes by
`elemOf_bit_eq_byte_bit`. -/
theorem elementsArePackedFromTheLowBits : Obligations.ElementsArePackedFromTheLowBits := by
  intro s r w i hw hle
  have hE : 0 < s.vlen / w := Nat.div_pos hle (by omega)
  refine ⟨fun val hr => ⟨?_, ?_, ?_⟩, fun b hb => ?_⟩
  · exact elemOf_setElem_same s.vlen s.v r w i val (vlen_le s) hE hr
  · intro b hb
    rw [getLsbD_setElem _ _ _ _ _ _ _ _ (vlen_le s) hE, if_pos ⟨⟨rfl, hr⟩, by omega⟩, Nat.add_sub_cancel_left]
  · intro r' b hout
    rw [getLsbD_setElem _ _ _ _ _ _ _ _ (vlen_le s) hE, if_neg (by omega)]
  · obtain ⟨E, hvlen⟩ := width_dvd_vlen s w hw hle
    obtain ⟨k, rfl⟩ : 8 ∣ w := by omega
    unfold State.velem
    rw [hvlen, Nat.mul_div_cancel_left k (by decide)]
    exact elemOf_bit_eq_byte_bit s.v r k i b E hb

/-- Settles O51: the mask bit read after write, and a write of it to another register or another bit. -/
theorem maskElementIsOneBitOfOneRegister : Obligations.MaskElementIsOneBitOfOneRegister := by
  intro s r i hr hi
  refine ⟨rfl, fun c => ⟨?_, ?_⟩, vlmax_le_vlen s⟩
  · exact maskOf_setMask_same s.v r i c (hi.trans_le (vlen_le s)) hr
  · rintro r' b (hr' | hb)
    · rw [regOf_setMask_ne s.v r i c r' hr']
    · exact regOf_setMask_bit_ne s.v r i c r' b hb

/-- Settles O52: the division of R30 is exact because every factor is a power of two, and the group holds an element. -/
theorem vlmaxIsAnIntegerBetweenOneAndVlen : Obligations.VlmaxIsAnIntegerBetweenOneAndVlen := by
  intro s hle h
  have hsew : 0 < 8 * s.sew := by rcases sew_cases s h with hw | hw | hw | hw <;> omega
  exact ⟨Nat.mul_div_cancel' (sew_dvd_group hle h), Nat.div_pos (sew_le_group hle h) hsew, vlmax_le_vlen s h⟩

/-- Settles O54: the fields of the `vtype` word bit by bit, and the registers by number. -/
theorem controlRegisterViews : Obligations.ControlRegisterViews := by
  intro s
  refine ⟨vtypeWord_fields s, ⟨?_, ?_⟩, vlenb_toNat s, rfl, ?_, ?_, ?_, rfl, rfl, rfl, fun n => readCsr_of_unlisted s⟩
  · exact BitVec.extractLsb'_append_eq_right
  · exact BitVec.extractLsb'_append_eq_left
  all_goals exact map_toNat_some_setWidth _ (by decide)

/-- Settles O53: the read of an `x` register after a write of the same and of another one. -/
theorem xRegisterZeroIsHardwired : Obligations.XRegisterZeroIsHardwired := by
  intro s a
  refine ⟨readX_zero s, writeX_zero s a, fun r hr => ⟨readX_writeX_same s hr a, fun r' hne => ?_, ?_⟩⟩
  · exact readX_writeX_ne s hne a
  · rw [writeX_of_ne s hr]

/-- Settles O55: the reset values meet each part of the invariant, and the text they list is empty. -/
theorem resetStateIsWellFormed : Obligations.ResetStateIsWellFormed :=
  ⟨reset_wf, readX_zero _, by decide, rfl⟩

end Sys2Proof.Machine
end

section
/-! PROOFS. The fetch: which bits of the word are which byte of text, what a step does with the word, and what placing a
word changes (20_memory.md R52, R54; 30_encoding.md R74; 40_execution_model.md R100; 70_reset_and_hazards.md R352). -/

namespace Sys2Proof

/-- R52: the byte at the lowest address is the low byte of the word, and so on upwards. -/
theorem wordOfBytes_byte (b0 b1 b2 b3 : Byte) :
    (wordOfBytes b0 b1 b2 b3).extractLsb' 0 8 = b0 ∧ (wordOfBytes b0 b1 b2 b3).extractLsb' 8 8 = b1 ∧
      (wordOfBytes b0 b1 b2 b3).extractLsb' 16 8 = b2 ∧ (wordOfBytes b0 b1 b2 b3).extractLsb' 24 8 = b3 := by
  unfold wordOfBytes
  refine ⟨BitVec.extractLsb'_append_eq_right, ?_, ?_, ?_⟩
  · rw [BitVec.extractLsb'_append_eq_of_le (by decide)]
    exact BitVec.extractLsb'_append_eq_right
  · rw [BitVec.extractLsb'_append_eq_of_le (by decide), BitVec.extractLsb'_append_eq_of_le (by decide)]
    exact BitVec.extractLsb'_append_eq_right
  · rw [BitVec.extractLsb'_append_eq_of_le (by decide), BitVec.extractLsb'_append_eq_of_le (by decide)]
    exact BitVec.extractLsb'_append_eq_left

end Sys2Proof

namespace Sys2Proof.Machine

theorem fetch_of_readByte {s : State} {b0 b1 b2 b3 : Byte} (halign : s.pcAddr % 4 = 0)
    (h0 : s.readByte s.pcAddr = some b0) (h1 : s.readByte (s.pcAddr + 1) = some b1)
    (h2 : s.readByte (s.pcAddr + 2) = some b2) (h3 : s.readByte (s.pcAddr + 3) = some b3) :
    s.fetch = .ok (wordOfBytes b0 b1 b2 b3) := by
  simp only [State.fetch, if_pos halign, h0, h1, h2, h3]

/-- R74, R100: the fetched word, if it is an instruction, is what the step runs. -/
theorem step_of_fetch {s : State} {w : Word32} {i : Instr} (hfetch : s.fetch = .ok w) (hdec : decodeWord w = .instr i) :
    step s = exec i s := by
  simp only [step, hfetch, hdec]

/-- A 32-bit word keeps all its bits when it is placed as one of 32 bits. -/
theorem withFetchWord_toNat (s : State) (w : Word32) : s.withFetchWord 32 w.toNat = s.storeWord s.pcAddr w := by
  rw [State.withFetchWord, Nat.mod_eq_of_lt w.isLt, BitVec.ofNat_toNat, BitVec.setWidth_eq]

theorem readByte_storeWord_outside (s : State) (w : Word32) {a b : Nat} (hout : b < a ∨ a + 4 ≤ b) :
    (s.storeWord a w).readByte b = s.readByte b := by
  rw [readByte_storeWord, if_neg (by omega), if_neg (by omega), if_neg (by omega), if_neg (by omega)]

/-! ### The statements -/

/-- Settles O11: placing a word stores its four bytes at `pc`, where the fetch puts them together again; no byte outside
those four and no field but the text changes. -/
theorem placedWordIsTheNextInstruction : Obligations.PlacedWordIsTheNextInstruction := by
  intro s w i halign hdec
  rw [withFetchWord_toNat]
  exact ⟨step_of_fetch (fetch_storeWord s w halign) hdec, fun _ => readByte_storeWord_outside s w, rfl⟩

/-- Settles O8: the four bytes make the word that is fetched, which is the word `decodeBytes` decodes. -/
theorem stepRunsTheDecodedInstruction : Obligations.StepRunsTheDecodedInstruction := by
  intro s b0 b1 b2 b3 i halign h0 h1 h2 h3 hdec
  exact step_of_fetch (fetch_of_readByte halign h0 h1 h2 h3) hdec

/-- Settles O10: the fetched word is the four bytes put together, and each byte is read back from its place in it. -/
theorem fetchIsLittleEndian : Obligations.FetchIsLittleEndian := by
  intro s b0 b1 b2 b3 halign h0 h1 h2 h3
  exact ⟨_, fetch_of_readByte halign h0 h1 h2 h3, wordOfBytes_byte b0 b1 b2 b3⟩

end Sys2Proof.Machine
end

section
/-! PROOFS. The encoding: an instruction's word decodes to the instruction and a decoded word is its instruction's;
which words the decoder rejects; the opcode table (30_encoding.md R65 to R74, R87, R89; log 11). First the words that
decode to no instruction, category by category, then the word of an instruction, then its row of the table, and at the
end the statements. -/

namespace Sys2Proof

open Sys2Proof.Statements

/-! ### What each category rejects (R70 to R72, R74, R87): one arm of its decoder for each `funct6` -/

section
variable {n : Nat} {vm : Bool} {vs2 a vd : BitVec 5}

/-- R72, R87(e): a sub-opcode without an instruction is reserved, none is outside the spec. -/
theorem decodeExtension_ne_outside : decodeExtension vm vs2 a vd ≠ .outside := by
  unfold decodeExtension
  split <;> nofun

theorem decodeExtension_eq_reserved :
    decodeExtension vm vs2 a vd = .reserved ↔ a.toNat < 2 ∨ 7 < a.toNat := by
  unfold decodeExtension
  split
  case h_7 => exact iff_of_true rfl (by grind)
  all_goals
    next hsub => simp [hsub]

theorem decodeOPIVV_rejects :
    (decodeOPIVV n vm vs2 a vd = .outside ↔ n ∉ integerFunct6) ∧
    (decodeOPIVV n vm vs2 a vd = .reserved ↔ ((n = 0b010000 ∨ n = 0b010010) ∧ vm = true) ∨
      (n = 0b010111 ∧ vm = true ∧ vs2 ≠ 0) ∨ n ∈ noVectorFunct6) := by
  unfold decodeOPIVV
  split <;> (repeat' split) <;> simp_all [integerFunct6, noVectorFunct6]

theorem decodeOPIVI_rejects :
    (decodeOPIVI n vm vs2 a vd = .outside ↔ n ∉ integerFunct6) ∧
    (decodeOPIVI n vm vs2 a vd = .reserved ↔ (n = 0b010000 ∧ vm = true) ∨
      (n = 0b010111 ∧ vm = true ∧ vs2 ≠ 0) ∨ n ∈ noImmediateFunct6) := by
  unfold decodeOPIVI
  split <;> (repeat' split) <;> simp_all [integerFunct6, noImmediateFunct6]

theorem decodeOPIVX_rejects :
    (decodeOPIVX n vm vs2 a vd = .outside ↔ n ∉ integerFunct6) ∧
    (decodeOPIVX n vm vs2 a vd = .reserved ↔ ((n = 0b010000 ∨ n = 0b010010) ∧ vm = true) ∨
      (n = 0b010111 ∧ vm = true ∧ vs2 ≠ 0)) := by
  unfold decodeOPIVX
  split <;> (repeat' split) <;> simp_all [integerFunct6]

theorem decodeOPMVV_rejects :
    (decodeOPMVV n vm vs2 a vd = .outside ↔ n ∉ multiplyFunct6) ∧
    (decodeOPMVV n vm vs2 a vd = .reserved ↔ n = 0b111110 ∨ (n = 0b010010 ∧ (a.toNat < 2 ∨ 7 < a.toNat))) := by
  unfold decodeOPMVV
  split <;> simp_all [multiplyFunct6, decodeExtension_ne_outside, decodeExtension_eq_reserved]

theorem decodeOPMVX_rejects :
    (decodeOPMVX n vm vs2 a vd = .outside ↔ n ∉ multiplyFunct6) ∧
    (decodeOPMVX n vm vs2 a vd = .reserved ↔ n = 0b010010) := by
  unfold decodeOPMVX
  split <;> simp_all [multiplyFunct6]

end

/-! ### The decoder of a word's category (R66, R74) -/

section
variable {w : Word32}

theorem decodeWord_of_opcode_ne (hop : opcodeOf w ≠ 0x57#7) : decodeWord w = .outside := if_neg hop

theorem decodeWord_opivv (hop : opcodeOf w = 0x57#7) (h3 : funct3Of w = 0b000) :
    decodeWord w = decodeOPIVV (funct6Of w).toNat (vmOf w) (vs2Of w) (argOf w) (vdOf w) := by
  rw [decodeWord, if_pos hop, h3]
  rfl

theorem decodeWord_opmvv (hop : opcodeOf w = 0x57#7) (h3 : funct3Of w = 0b010) :
    decodeWord w = decodeOPMVV (funct6Of w).toNat (vmOf w) (vs2Of w) (argOf w) (vdOf w) := by
  rw [decodeWord, if_pos hop, h3]
  rfl

theorem decodeWord_opivi (hop : opcodeOf w = 0x57#7) (h3 : funct3Of w = 0b011) :
    decodeWord w = decodeOPIVI (funct6Of w).toNat (vmOf w) (vs2Of w) (argOf w) (vdOf w) := by
  rw [decodeWord, if_pos hop, h3]
  rfl

theorem decodeWord_opivx (hop : opcodeOf w = 0x57#7) (h3 : funct3Of w = 0b100) :
    decodeWord w = decodeOPIVX (funct6Of w).toNat (vmOf w) (vs2Of w) (argOf w) (vdOf w) := by
  rw [decodeWord, if_pos hop, h3]
  rfl

theorem decodeWord_opmvx (hop : opcodeOf w = 0x57#7) (h3 : funct3Of w = 0b110) :
    decodeWord w = decodeOPMVX (funct6Of w).toNat (vmOf w) (vs2Of w) (argOf w) (vdOf w) := by
  rw [decodeWord, if_pos hop, h3]
  rfl

theorem decodeWord_otherCategory (h3 : funct3Of w = 0b001 ∨ funct3Of w = 0b101 ∨ funct3Of w = 0b111) :
    decodeWord w = .outside := by
  unfold decodeWord
  rcases h3 with h3 | h3 | h3 <;> simp [h3]

end

theorem funct3_cases : ∀ f : BitVec 3, f = 0b000 ∨ f = 0b010 ∨ f = 0b011 ∨ f = 0b100 ∨ f = 0b110 ∨
    (f = 0b001 ∨ f = 0b101 ∨ f = 0b111) := by
  decide

/-! ### The word of an instruction, and its bytes -/

/-- `encode` packs one list of fields for each instruction, and the decoder reads them back to the same arm. -/
theorem decodeWord_encode (i : Instr) : decodeWord (encode i) = .instr i := by
  cases i <;> exact decodeWord_pack _ _ _ _ _ _

theorem decodeBytes_bytesOfWord (w : Word32) : decodeBytes (bytesOfWord w) = decodeWord w :=
  congrArg decodeWord (Machine.wordOfBytes_bytes w)

theorem decodeTableWord_of_instr {w : Word32} {i : Instr} (h : decodeWord w = .instr i) :
    decodeTableWord 32 w.toNat = some i := by
  have hw : BitVec.ofNat 32 (w.toNat % 2 ^ 32) = w := by
    rw [Nat.mod_eq_of_lt w.isLt, BitVec.ofNat_toNat, BitVec.setWidth_eq]
  simp only [decodeTableWord, hw, decodeBytes_bytesOfWord, h]

/-! ### The row of an instruction (R73)

A row fixes `funct6`, `funct3` and the opcode of its words, and where it must also `vm`, `vs2` or bits 19:15. The table
is exactly the rows of the instructions. -/

/-- The mask of a row that fixes `vm`, `vs2` and bits 19:15 at the ones of its arguments. -/
def fieldMask (vm : Bool) (vs2 a : BitVec 5) : Word32 :=
  0x3F#6 ++ BitVec.ofBool vm ++ vs2 ++ a ++ 0b111#3 ++ 0#5 ++ 0x7F#7

theorem pack_and_fieldMask (f6 : BitVec 6) (vm : Bool) (vs2 a vd : BitVec 5) (f3 : BitVec 3) (mvm : Bool)
    (mvs2 ma : BitVec 5) : pack f6 vm vs2 a f3 vd &&& fieldMask mvm mvs2 ma =
      pack f6 (vm && mvm) (vs2 &&& mvs2) (a &&& ma) f3 0#5 := by
  have h6 : f6 &&& 0x3F#6 = f6 := BitVec.and_allOnes
  have h3 : f3 &&& 0b111#3 = f3 := BitVec.and_allOnes
  unfold pack fieldMask
  rw [BitVec.and_append, BitVec.and_append, BitVec.and_append, BitVec.and_append, BitVec.and_append, BitVec.and_append,
    h6, h3, BitVec.and_zero, BitVec.ofBool_and_ofBool]
  rfl

/-- The bits of an instruction's word that do not depend on its operands: the sub-opcode of an extension (R72), `vm`
where it chooses the instruction, and `vs2` of a move (R73). -/
def Instr.rowMask : Instr → Word32
  | .vzextVF2 .. | .vsextVF2 .. | .vzextVF4 .. | .vsextVF4 .. | .vzextVF8 .. | .vsextVF8 .. =>
    fieldMask false 0#5 (BitVec.allOnes 5)
  | .vadcVVM .. | .vadcVXM .. | .vadcVIM .. | .vmadcVVM .. | .vmadcVXM .. | .vmadcVIM ..
  | .vmadcVV .. | .vmadcVX .. | .vmadcVI .. | .vsbcVVM .. | .vsbcVXM .. | .vmsbcVVM .. | .vmsbcVXM ..
  | .vmsbcVV .. | .vmsbcVX .. | .vmergeVVM .. | .vmergeVXM .. | .vmergeVIM .. => fieldMask true 0#5 0#5
  | .vmvVV .. | .vmvVX .. | .vmvVI .. => fieldMask true (BitVec.allOnes 5) 0#5
  | _ => fieldMask false 0#5 0#5

/-- The row of an instruction: its word under the mask, whatever the operands. -/
def Instr.row (i : Instr) : OpcodeRow := ⟨i.mnemonic, encode i &&& i.rowMask, i.rowMask⟩

/-- Under the mask the operands are gone, so that the search of the table is a computation. -/
theorem find?_matchesWord_row (i : Instr) :
    opcodeTable.find? (·.matchesWord i.row.pattern) = some i.row := by
  cases i
  all_goals
    simp only [Instr.row, Instr.rowMask, Instr.mnemonic, encode, pack_and_fieldMask, Bool.and_false, Bool.and_true,
      BitVec.and_zero, BitVec.and_allOnes]
    decide +kernel

/-- The pattern of a row is itself a word of the row's instruction, the one with every free field zero. -/
theorem row_of_decode_pattern :
    ∀ r ∈ opcodeTable, (decodeTableWord 32 r.pattern.toNat).map Instr.row = some r := by
  decide +kernel

theorem mem_opcodeTable_iff (r : OpcodeRow) : r ∈ opcodeTable ↔ ∃ i : Instr, i.row = r := by
  constructor
  · intro hr
    obtain ⟨i, -, hrow⟩ := Option.map_eq_some_iff.mp (row_of_decode_pattern r hr)
    exact ⟨i, hrow⟩
  · rintro ⟨i, rfl⟩
    exact List.mem_of_find?_eq_some (find?_matchesWord_row i)

theorem matchesWord_row (i : Instr) (w : Word32) :
    i.row.matchesWord w = true ↔ w &&& i.rowMask = encode i &&& i.rowMask := beq_iff_eq

section
variable {w : Word32} {f6 : BitVec 6} {vm mvm : Bool} {vs2 a vd mvs2 ma : BitVec 5} {f3 : BitVec 3}

theorem opcodeOf_and_fieldMask (w : Word32) : opcodeOf (w &&& fieldMask mvm mvs2 ma) = opcodeOf w := by
  unfold opcodeOf fieldMask
  rw [BitVec.extractLsb'_and, BitVec.extractLsb'_append_eq_right]
  exact BitVec.and_allOnes

/-- A word that agrees with a packed one under a mask has its opcode, `funct6` and `funct3`, and whatever else the mask
fixes. -/
theorem pack_of_and_eq (h : w &&& fieldMask mvm mvs2 ma = pack f6 vm vs2 a f3 vd &&& fieldMask mvm mvs2 ma) :
    ∃ vm' vs2' a' vd', w = pack f6 vm' vs2' a' f3 vd' ∧
      (vm' && mvm) = (vm && mvm) ∧ vs2' &&& mvs2 = vs2 &&& mvs2 ∧ a' &&& ma = a &&& ma := by
  have hop : opcodeOf w = 0x57#7 := by
    rw [← opcodeOf_and_fieldMask w, h, opcodeOf_and_fieldMask, opcodeOf_pack]
  have hw := pack_fields w hop
  rw [← hw, pack_and_fieldMask, pack_and_fieldMask] at h
  have h6 := congrArg funct6Of h
  have h3 := congrArg funct3Of h
  have hvm := congrArg vmOf h
  have hvs2 := congrArg vs2Of h
  have ha := congrArg argOf h
  simp only [funct6Of_pack, funct3Of_pack, vmOf_pack, vs2Of_pack, argOf_pack] at h6 h3 hvm hvs2 ha
  rw [h6, h3] at hw
  exact ⟨_, _, _, _, hw.symm, hvm, hvs2, ha⟩

end

/-- The fields a row fixes lead the decoder to the arm of the row's instruction, whatever the free fields hold: bits
19:15 choose among the extensions, `vm` in the carry and merge slots, `vm` and `vs2` in the move slot. -/
theorem decodeWord_of_row {i : Instr} {w : Word32} (h : i.row.matchesWord w = true) :
    ∃ i', decodeWord w = .instr i' ∧ i'.mnemonic = i.mnemonic := by
  rw [matchesWord_row] at h
  cases i
  all_goals obtain ⟨vm', vs2', a', vd', rfl, hvm, hvs2, ha⟩ := pack_of_and_eq h
  case vzextVF2 | vsextVF2 | vzextVF4 | vsextVF4 | vzextVF8 | vsextVF8 =>
    rw [BitVec.and_allOnes, BitVec.and_allOnes] at ha
    subst ha
    exact ⟨_, decodeWord_pack _ _ _ _ _ _, rfl⟩
  case vmvVV | vmvVX | vmvVI =>
    rw [Bool.and_true, Bool.and_true] at hvm
    rw [BitVec.and_allOnes, BitVec.and_allOnes] at hvs2
    subst hvm hvs2
    exact ⟨_, decodeWord_pack _ _ _ _ _ _, rfl⟩
  case vadcVVM | vadcVXM | vadcVIM | vmadcVVM | vmadcVXM | vmadcVIM | vmadcVV | vmadcVX | vmadcVI | vsbcVVM | vsbcVXM |
      vmsbcVVM | vmsbcVXM | vmsbcVV | vmsbcVX | vmergeVVM | vmergeVXM | vmergeVIM =>
    rw [Bool.and_true, Bool.and_true] at hvm
    subst hvm
    exact ⟨_, decodeWord_pack _ _ _ _ _ _, rfl⟩
  all_goals exact ⟨_, decodeWord_pack _ _ _ _ _ _, rfl⟩

/-- Two rows at different places disagree on a bit that both fix. -/
theorem rows_conflict : opcodeTable.Pairwise fun r q => r.pattern &&& q.mask ≠ q.pattern &&& r.mask := by
  decide +kernel

theorem pattern_and_mask_of_matches {r q : OpcodeRow} {w : Word32} (hr : r.matchesWord w = true)
    (hq : q.matchesWord w = true) : r.pattern &&& q.mask = q.pattern &&& r.mask := by
  have hr' : w &&& r.mask = r.pattern := beq_iff_eq.mp hr
  have hq' : w &&& q.mask = q.pattern := beq_iff_eq.mp hq
  rw [← hr', ← hq', BitVec.and_assoc, BitVec.and_assoc, BitVec.and_comm r.mask]

/-! ### The statements -/

/-- Settles O1: the bytes of a word make the word again, and the decoder reads the packed fields back. -/
theorem decodeOfEncodeIsTheInstruction : Obligations.DecodeOfEncodeIsTheInstruction := by
  intro i
  have h := decodeWord_encode i
  exact ⟨h, (decodeBytes_bytesOfWord _).trans h, decodeTableWord_of_instr h⟩

/-- Settles O2: each category fixes `funct6` and `funct3`, and the fields of a word make it up. -/
theorem encodeOfDecodeIsTheWord : Obligations.EncodeOfDecodeIsTheWord :=
  fun _ _ => encode_of_decodeWord

/-- Settles O3: the rows of the table are those of the instructions, and a word matches the row of an instruction
exactly when it has the bits that the row fixes. -/
theorem tableRowMatchesExactlyItsInstruction : Obligations.TableRowMatchesExactlyItsInstruction := by
  refine ⟨fun w r hr hmatch => ?_, fun w i hdec => ?_⟩
  · obtain ⟨i, rfl⟩ := (mem_opcodeTable_iff r).mp hr
    exact decodeWord_of_row hmatch
  · refine ⟨i.row, (mem_opcodeTable_iff _).mpr ⟨i, rfl⟩, rfl, ?_⟩
    rw [matchesWord_row, encode_of_decodeWord hdec]

/-- Settles O4: a word that two rows match agrees with both on the bits that both fix. -/
theorem noWordMatchesTwoTableRows : Obligations.NoWordMatchesTwoTableRows := by
  refine ⟨rfl, fun w j k hj hk => ?_⟩
  have hconflict := List.pairwise_iff_getElem.mp rows_conflict
  rcases lt_trichotomy j k with hlt | heq | hlt
  · exact absurd (pattern_and_mask_of_matches hj hk) (hconflict j k j.isLt k.isLt hlt)
  · exact heq
  · exact absurd (pattern_and_mask_of_matches hk hj) (hconflict k j k.isLt j.isLt hlt)

/-- Settles O5: by category, from what its decoder calls outside. -/
theorem wordsOutsideTheSpecAreExactlyThese : Obligations.WordsOutsideTheSpecAreExactlyThese := by
  refine fun w => ⟨decodeWord_ne_short w, ?_⟩
  by_cases hop : opcodeOf w = 0x57#7
  case neg => simp [decodeWord_of_opcode_ne hop, hop]
  rcases funct3_cases (funct3Of w) with h3 | h3 | h3 | h3 | h3 | h3
  · rw [decodeWord_opivv hop h3, decodeOPIVV_rejects.1]; simp [hop, h3]
  · rw [decodeWord_opmvv hop h3, decodeOPMVV_rejects.1]; simp [hop, h3]
  · rw [decodeWord_opivi hop h3, decodeOPIVI_rejects.1]; simp [hop, h3]
  · rw [decodeWord_opivx hop h3, decodeOPIVX_rejects.1]; simp [hop, h3]
  · rw [decodeWord_opmvx hop h3, decodeOPMVX_rejects.1]; simp [hop, h3]
  · rw [decodeWord_otherCategory h3]; tauto

/-- Settles O6: by category, from what its decoder calls reserved. -/
theorem reservedWordsAreExactlyThese : Obligations.ReservedWordsAreExactlyThese := by
  intro w
  by_cases hop : opcodeOf w = 0x57#7
  case neg => simp [decodeWord_of_opcode_ne hop, hop]
  rcases funct3_cases (funct3Of w) with h3 | h3 | h3 | h3 | h3 | h3
  · rw [decodeWord_opivv hop h3, decodeOPIVV_rejects.2]; simp [hop, h3, isOPIV, BitVec.toNat_eq]
  · rw [decodeWord_opmvv hop h3, decodeOPMVV_rejects.2]; simp [hop, h3, isOPIV, BitVec.toNat_eq]
  · rw [decodeWord_opivi hop h3, decodeOPIVI_rejects.2]; simp [hop, h3, isOPIV, BitVec.toNat_eq]
  · rw [decodeWord_opivx hop h3, decodeOPIVX_rejects.2]; simp [hop, h3, isOPIV, BitVec.toNat_eq]
  · rw [decodeWord_opmvx hop h3, decodeOPMVX_rejects.2]; simp [hop, h3, isOPIV, BitVec.toNat_eq]
  · rw [decodeWord_otherCategory h3]
    rcases h3 with h3 | h3 | h3 <;> simp [h3, isOPIV]

end Sys2Proof
end

section
/-! PROOFS. The immediate operand, and the idioms that fix the second operand: a zero from `x0`, all ones from the
immediate -1 (30_encoding.md R68, R90 to R93; 40_execution_model.md R114, R115). -/

namespace Sys2Proof.Machine

/-! ### The second operand (R114, R115) -/

theorem operand_simm_toInt (s : State) (imm : BitVec 5) {w : Nat} (e : Nat) (hw : 5 ≤ w) :
    (s.operand (.simm imm) w e).toInt = imm.toInt :=
  BitVec.toInt_signExtend_of_le hw

theorem operand_uimm_toNat (s : State) (imm : BitVec 5) {w : Nat} (e : Nat) (hw : 5 ≤ w) :
    (s.operand (.uimm imm) w e).toNat = imm.toNat :=
  BitVec.toNat_setWidth_of_le hw

theorem signExtend_zero (n m : Nat) : (0 : BitVec n).signExtend m = 0 := by
  simp [BitVec.signExtend]

theorem operand_x0 (s : State) (w e : Nat) : s.operand (.scalar 0) w e = 0 := by
  show ((0#64).setWidth s.xbits).signExtend w = 0
  rw [BitVec.setWidth_zero]
  exact signExtend_zero s.xbits w

/-- The field of the immediate -1 is 31. -/
theorem operand_minusOne (s : State) (w e : Nat) : s.operand (.simm 31) w e = BitVec.allOnes w :=
  calc s.operand (.simm 31) w e = BitVec.ofInt w (-1) := rfl
    _ = -BitVec.ofInt w 1 := BitVec.ofInt_neg
    _ = BitVec.allOnes w := BitVec.neg_one_eq_allOnes

/-! ### The element functions at those operands -/

theorem fRsub_zero (n : Nat) (a : BitVec n) : fRsub n a 0 = -a := by
  rw [fRsub_eq]
  exact BitVec.zero_sub a

theorem fXor_allOnes (n : Nat) (a : BitVec n) : fXor n a (BitVec.allOnes n) = ~~~a := BitVec.xor_allOnes

theorem fWadd_zero (n : Nat) (a : BitVec n) : fWadd n a 0 = a.signExtend (2 * n) := by
  rw [fWadd_eq, signExtend_zero]
  exact BitVec.add_zero _

theorem fWaddu_zero (n : Nat) (a : BitVec n) : fWaddu n a 0 = a.setWidth (2 * n) := by
  rw [fWaddu_eq]
  simp

theorem fNsrl_zero (n : Nat) (a : BitVec (2 * n)) : fNsrl n a 0 = a.setWidth n := by
  rw [fNsrl, srl_eq]
  simp

/-! ### The statements -/

/-- Settles O49: both extensions keep the value of the field, and a value of -16 to 15 is at one end of the unsigned
range. -/
theorem immediateOperandIsSignExtendedButForShifts : Obligations.ImmediateOperandIsSignExtendedButForShifts := by
  intro s imm w e hw
  have h5 : 5 ≤ w := by omega
  have hInt := operand_simm_toInt s imm e h5
  refine ⟨hInt, ?_, operand_uimm_toNat s imm e h5⟩
  have hlow : -2 ^ 4 ≤ imm.toInt := BitVec.le_toInt imm
  have hhigh : imm.toInt < 2 ^ 4 := BitVec.toInt_lt
  rw [← hInt, BitVec.toInt_eq_toNat_cond] at hlow hhigh
  have hlt := (s.operand (.simm imm) w e).isLt
  rcases hw with rfl | rfl | rfl | rfl <;> omega

/-- Settles O60: each is the run of its underlying instruction, whose element function is the idiom's at the fixed
second operand. -/
theorem pseudoInstructionIdioms : Obligations.PseudoInstructionIdioms := by
  refine ⟨?neg, ?not, ?widen, ?widenu, ?narrow⟩
  all_goals intro s vd vs vm hready hlegal
  case neg =>
    have hf e : fRsub s.sew (s.velem vs.toNat s.sew e) (s.operand (.scalar 0) s.sew e) =
        -(s.velem vs.toNat s.sew e) := by
      rw [operand_x0, fRsub_zero]
    rw [← funext hf]
    exact single_result (.vrsubVX vd vs 0 vm) s (s.activeAt vm) _ hready hlegal (.inl rfl)
  case not =>
    have hf e : fXor s.sew (s.velem vs.toNat s.sew e) (s.operand (.simm 31) s.sew e) =
        ~~~(s.velem vs.toNat s.sew e) := by
      rw [operand_minusOne, fXor_allOnes]
    rw [← funext hf]
    exact single_result (.vxorVI vd vs 31 vm) s (s.activeAt vm) _ hready hlegal (.inl rfl)
  case widen =>
    have hf e : fWadd s.sew (s.velem vs.toNat s.sew e) (s.operand (.scalar 0) s.sew e) =
        (s.velem vs.toNat s.sew e).signExtend (2 * s.sew) := by
      rw [operand_x0, fWadd_zero]
    rw [← funext hf]
    exact wide_result (.vwaddVX vd vs 0 vm) s (s.activeAt vm) _ hready hlegal (.inl rfl)
  case widenu =>
    have hf e : fWaddu s.sew (s.velem vs.toNat s.sew e) (s.operand (.scalar 0) s.sew e) =
        (s.velem vs.toNat s.sew e).setWidth (2 * s.sew) := by
      rw [operand_x0, fWaddu_zero]
    rw [← funext hf]
    exact wide_result (.vwadduVX vd vs 0 vm) s (s.activeAt vm) _ hready hlegal (.inl rfl)
  case narrow =>
    have hf e : fNsrl s.sew (s.velem vs.toNat (2 * s.sew) e) (s.operand (.scalar 0) s.sew e) =
        (s.velem vs.toNat (2 * s.sew) e).setWidth s.sew := by
      rw [operand_x0, fNsrl_zero]
    rw [← funext hf]
    exact single_result (.vnsrlWX vd vs 0 vm) s (s.activeAt vm) _ hready hlegal (by simp [Instr.form])

end Sys2Proof.Machine
end

section
/-! PROOFS. The execution model: which instructions raise and which complete, and what a completed one leaves alone
(40_execution_model.md R100 to R109, R113, R114, R120, R121). First what the family constraints imply, then the checks,
then the instructions, and at the end the statements. -/

namespace Sys2Proof.Machine

open Sys2Proof.Statements

/-! ### What the family constraints imply (R103, R105, R108, R109) -/

theorem multipleOf_iff (m8 : Nat) (r : RegNum) : multipleOf m8 r = true ↔ m8 ≤ 8 ∨ r.toNat % (m8 / 8) = 0 := by
  simp [multipleOf]

theorem not_multipleOf {m8 : Nat} {r : RegNum} (hm : 8 < m8) (hr : r.toNat % (m8 / 8) ≠ 0) :
    ¬ multipleOf m8 r = true := by
  rw [multipleOf_iff]
  omega

/-- R103 for the operands of `2*SEW`: the widening families and the narrowing one (R151, R228, R297, R318). -/
theorem legal_double {s : State} {i : Instr} (hl : Legal s i = true)
    (hk : i.form.kind ∈ [Kind.widen, .widenMac, .widenWide, .narrow]) : 2 * s.sew ≤ s.elen ∧ s.lmul8 < 64 := by
  simp only [List.mem_cons, List.not_mem_nil, or_false] at hk
  unfold Legal at hl
  rcases hk with h | h | h | h <;> simp only [h, Bool.and_eq_true, decide_eq_true_eq] at hl <;> tauto

/-- R103 for the source of an extension (R171). -/
theorem legal_ext {s : State} {i : Instr} {k : Nat} (hl : Legal s i = true) (hk : i.form.kind = .ext k) :
    8 * k ≤ s.sew ∧ k ≤ s.lmul8 := by
  unfold Legal at hl
  simp only [hk, Bool.and_eq_true, decide_eq_true_eq] at hl
  tauto

theorem legal_wellFormed {s : State} {i : Instr} (hl : Legal s i = true) :
    i.form.destOffMask = true ∧ i.form.sourcesOffMask = true := by
  simp only [Legal, Instr.wellFormed, Bool.and_eq_true] at hl
  exact hl.1

/-- R105 for a data destination. -/
theorem legal_dest_aligned {s : State} {i : Instr} (hl : Legal s i = true) (hk : i.form.kind ≠ .mask) :
    multipleOf (destEmul8 s i) i.form.vd = true := by
  unfold destEmul8
  cases hkind : i.form.kind
  case mask => exact absurd hkind hk
  case widen | widenMac | widenWide =>
    obtain ⟨-, -, halign⟩ := legal_wide s i hl (by simp [hkind])
    exact halign
  all_goals exact legal_single s i hl (by simp [hkind])

/-- R105 for `vs2`, at its own `EMUL`. -/
theorem legal_vs2_aligned {s : State} {i : Instr} {r : RegNum} (hl : Legal s i = true) (hr : i.form.vs2 = some r) :
    multipleOf (sourceEmul8 s i) r = true := by
  have htable := form_inTable i
  unfold Legal at hl
  unfold sourceEmul8
  cases hkind : i.form.kind
  case move => simp [Form.inTable, hkind, hr] at htable
  all_goals
    simp only [hkind, hr, Option.all_some, Bool.and_eq_true] at hl
    tauto

/-- R105 for a vector `vs1`, which is `SEW` wide in every shape. -/
theorem legal_vs1_aligned {s : State} {i : Instr} {r : RegNum} (hl : Legal s i = true) (hr : i.form.vs1 = some r) :
    multipleOf s.lmul8 r = true := by
  have htable := form_inTable i
  unfold Legal at hl
  cases hkind : i.form.kind
  case ext => simp [Form.inTable, hkind, hr] at htable
  all_goals
    simp only [hkind, hr, Option.all_some, Bool.and_eq_true] at hl
    tauto

/-- R103 at the configuration itself. -/
theorem config_inRange {s : State} (hc : s.launchOk = true) :
    8 ≤ s.sew ∧ s.sew ≤ s.elen ∧ 1 ≤ s.lmul8 ∧ s.lmul8 ≤ 64 := by
  obtain ⟨-, hsupported, -, -⟩ := (launchOk_iff s).mp hc
  have hsew := sew_cases s hsupported
  have hlmul := lmul8_cases s hsupported
  exact ⟨by omega, sew_le_elen s hsupported, by omega, by omega⟩

/-! ### The checks of R100 -/

theorem guarded_vill {s : State} (word : Word32) (h : Shape) (t : State) (hvill : s.vtype.vill = true) :
    s.guarded word h t = raise word := by
  unfold State.guarded
  rw [if_pos hvill, ite_self]

/-- R104. -/
theorem guarded_vstartTrap {s : State} (word : Word32) (h : Shape) (t : State) (hc : s.launchOk = true)
    (hvstart : s.vstart ≠ 0) (htrap : s.cfg.vstartTrap = true) : s.guarded word h t = raise word := by
  unfold State.guarded
  rw [if_neg (show ¬ (!s.launchOk) = true by simp [hc]),
    if_pos (show s.vstart ≠ 0 ∧ s.cfg.vstartTrap = true from ⟨hvstart, htrap⟩), ite_self, ite_self]

/-- R121: the checks read the parameters, `vtype`, `vl`, `vstart` and `mstatus.VS`, and nothing else. -/
theorem guarded_congr {s s' : State} (hcfg : s.cfg = s'.cfg) (hvtype : s.vtype = s'.vtype) (hvl : s.vl = s'.vl)
    (hvstart : s.vstart = s'.vstart) (hvs : s.vs = s'.vs) (word : Word32) (f : Form) (u : State) :
    s.guarded word (s.shapeOf f) u = s'.guarded word (s'.shapeOf f) u := by
  cases s
  cases s'
  cases hcfg
  cases hvtype
  cases hvl
  cases hvstart
  cases hvs
  rfl

/-! ### The kind of an answer -/

/-- The answer with a next state, where it has one, replaced by a fixed state: all that the next state does not say. -/
def answerKind : Result → Result := mapNext fun _ => State.reset

theorem answerKind_eq_next (r : Result) : answerKind r = .next State.reset ↔ ∃ t, r = .next t := by
  cases r <;> simp [answerKind, mapNext]

theorem answerKind_eq_fault (r : Result) (f : Fault) : answerKind r = .fault f ↔ r = .fault f := by
  cases r <;> simp [answerKind, mapNext]

theorem answerKind_eq_refused (r : Result) (q : Refusal) : answerKind r = .refused q ↔ r = .refused q := by
  cases r <;> simp [answerKind, mapNext]

theorem answerKind_guarded (s : State) (word : Word32) (h : Shape) (t : State) :
    answerKind (s.guarded word h t) = s.guarded word h State.reset := by
  simp only [State.guarded, apply_ite answerKind]
  rfl

theorem answerKind_exec (i : Instr) (s : State) :
    answerKind (exec i s) = s.guarded (encode i) (s.shapeOf i.form) State.reset := by
  obtain ⟨v, hexec⟩ := exec_guarded i s
  rw [hexec, answerKind_guarded]

/-! ### What an instruction does -/

/-- R100: in a ready state the constraints of the family decide between completing and raising. -/
theorem exec_ready (i : Instr) {s : State} (hr : Ready s = true) :
    ∃ v, exec i s = if Legal s i then .next (s.complete v) else raise (encode i) := by
  obtain ⟨v, hexec⟩ := exec_guarded i s
  obtain ⟨-, -, hlaunch, -⟩ := (ready_iff s).mp hr
  exact ⟨v, by rw [hexec, guarded_ready s _ _ _ hr, shapeOf_legal_instr i s hlaunch]⟩

theorem exec_next_of_legal {i : Instr} {s : State} (hr : Ready s = true) (hl : Legal s i = true) :
    ∃ t, exec i s = .next t := by
  obtain ⟨v, hexec⟩ := exec_ready i hr
  exact ⟨s.complete v, by rw [hexec, if_pos hl]⟩

theorem exec_fault_of_not_legal {i : Instr} {s : State} (hr : Ready s = true) (hl : ¬ Legal s i = true) :
    exec i s = .fault (.illegalInstruction (encode i)) := by
  obtain ⟨v, hexec⟩ := exec_ready i hr
  rw [hexec, if_neg hl]
  rfl

/-- R112: a completed instruction writes the registers of its destination group at most. -/
theorem exec_next_others {i : Instr} {s t : State} (h : exec i s = .next t) {r : Nat}
    (hr : r < i.form.vd.toNat ∨ i.form.vd.toNat + regCount (destEmul8 s i) ≤ r) : regOf t.v r = regOf s.v r := by
  obtain ⟨hmask, hdata⟩ := exec_next_dest h
  by_cases hk : i.form.kind = .mask
  · obtain ⟨_, _, hdest⟩ := hmask hk
    have hcount : regCount (destEmul8 s i) = 1 := by simp [destEmul8, hk, regCount]
    exact hdest.others r (by omega)
  · obtain ⟨_, _, hdest⟩ := hdata hk
    exact hdest.others r hr

/-- R113. -/
theorem exec_next_empty {i : Instr} {s t : State} (h : exec i s = .next t) (hempty : s.vl.toNat ≤ s.vstart.toNat) :
    t.v = s.v := by
  obtain ⟨hmask, hdata⟩ := exec_next_dest h
  by_cases hk : i.form.kind = .mask
  · obtain ⟨_, _, hdest⟩ := hmask hk
    exact hdest.empty hempty
  · obtain ⟨_, _, hdest⟩ := hdata hk
    exact hdest.empty hempty

/-! ### The statements -/

/-- Settles O16: the checks pass exactly where the family's constraints hold (`shapeOf_legal`), and raise elsewhere. -/
theorem instructionsCompleteExactlyWhereLegal : Obligations.InstructionsCompleteExactlyWhereLegal := by
  intro i s hr
  refine ⟨⟨fun ⟨t, h⟩ => ?_, exec_next_of_legal hr⟩, fun hl => exec_fault_of_not_legal hr (by simp [hl])⟩
  obtain ⟨-, hlegal, -⟩ := exec_next h
  exact hlegal

/-- Settles O24: completion writes no other field, and the element loops no other register. -/
theorem completionChangesOnlyTheDestination : Obligations.CompletionChangesOnlyTheDestination :=
  fun _ _ _ h => ⟨exec_next_frame h, fun _ => exec_next_others h⟩

/-- Settles O13: `vill` is checked before everything but `mstatus.VS`, whose check raises the same. -/
theorem villMakesEveryInstructionFault : Obligations.VillMakesEveryInstructionFault := by
  intro i s hvill
  obtain ⟨v, hexec⟩ := exec_guarded i s
  rw [hexec, guarded_vill _ _ _ hvill]
  rfl

/-- Settles O15: without the trap the state is ready, and the loops write no element below `vstart`. -/
theorem nonzeroVstartTrapsWhereTheParameterSaysSo : Obligations.NonzeroVstartTrapsWhereTheParameterSaysSo := by
  intro i s hon hvill hlaunch hvstart
  constructor
  · intro htrap
    obtain ⟨v, hexec⟩ := exec_guarded i s
    rw [hexec, guarded_vstartTrap _ _ _ hlaunch hvstart htrap]
    rfl
  · intro htrap hlegal
    obtain ⟨t, h⟩ := exec_next_of_legal ((ready_iff s).mpr ⟨hon, hvill, hlaunch, .inr htrap⟩) hlegal
    obtain ⟨hmask, hdata⟩ := exec_next_dest h
    refine ⟨t, h, fun hk => ?_, fun hk => ?_⟩
    · obtain ⟨_, _, hdest⟩ := hmask hk
      exact hdest.onPrestart
    · obtain ⟨_, _, hdest⟩ := hdata hk
      exact hdest.onPrestart

/-- Settles O17: each check of R100 has passed. -/
theorem instructionsCompleteOnlyInReadyStates : Obligations.InstructionsCompleteOnlyInReadyStates := by
  intro i s t h
  obtain ⟨hready, hlegal, -⟩ := exec_next h
  exact ⟨hready, hlegal⟩

/-- Settles O18: the constraints of the families with an operand of another width than `SEW` bound that width and its
multiplier. -/
theorem widthsAndMultipliersOutOfRangeFault : Obligations.WidthsAndMultipliersOutOfRangeFault := by
  refine ⟨fun s => config_inRange, fun i s hr hk hout => ?_, fun i s k hr hk hout => ?_⟩
  · refine exec_fault_of_not_legal hr fun hl => ?_
    have hrange := legal_double hl hk
    omega
  · refine exec_fault_of_not_legal hr fun hl => ?_
    have hrange := legal_ext hl hk
    omega

/-- Settles O19: the word alone is not well formed. -/
theorem maskedInstructionsMayNotWriteOrReadV0AsData : Obligations.MaskedInstructionsMayNotWriteOrReadV0AsData := by
  intro i s hr hv0
  refine ⟨fun hk hvd => exec_fault_of_not_legal hr fun hl => ?_, fun hsrc => exec_fault_of_not_legal hr fun hl => ?_⟩
  · obtain ⟨hdest, -⟩ := legal_wellFormed hl
    simp [Form.destOffMask, Form.maskDest, hv0, hk, hvd] at hdest
  · obtain ⟨-, hsources⟩ := legal_wellFormed hl
    rcases hsrc with hsrc | hsrc <;> simp [Form.sourcesOffMask, hv0, hsrc] at hsources

/-- Settles O20: the constraints of every family ask each group to be aligned at its own `EMUL`. -/
theorem misalignedGroupsFault : Obligations.MisalignedGroupsFault := by
  intro i s hr
  refine ⟨fun hk hm hmod => ?_, fun r hvs2 hm hmod => ?_, fun r hvs1 hm hmod => ?_⟩
  · exact exec_fault_of_not_legal hr fun hl => not_multipleOf hm hmod (legal_dest_aligned hl hk)
  · exact exec_fault_of_not_legal hr fun hl => not_multipleOf hm hmod (legal_vs2_aligned hl hvs2)
  · exact exec_fault_of_not_legal hr fun hl => not_multipleOf hm hmod (legal_vs1_aligned hl hvs1)

/-- Settles O23: the kind of the answer is the answer of the checks, which read none of what differs. -/
theorem outcomeNeverDependsOnOperandValues : Obligations.OutcomeNeverDependsOnOperandValues := by
  intro i s s' hcfg hvtype hvl hvstart hvs
  have hkind : answerKind (exec i s) = answerKind (exec i s') := by
    rw [answerKind_exec, answerKind_exec, guarded_congr hcfg hvtype hvl hvstart hvs]
  refine ⟨?_, fun f => ?_, fun r => ?_⟩
  · rw [← answerKind_eq_next, hkind, answerKind_eq_next]
  · rw [← answerKind_eq_fault, hkind, answerKind_eq_fault]
  · rw [← answerKind_eq_refused, hkind, answerKind_eq_refused]

/-- Settles O25: the checks and the completion do not ask for a body, and the loops write nothing without one. -/
theorem emptyBodyWritesNoElement : Obligations.EmptyBodyWritesNoElement := by
  intro i s hr hempty
  refine ⟨fun hl => ?_, fun hl => exec_fault_of_not_legal hr (by simp [hl])⟩
  obtain ⟨t, h⟩ := exec_next_of_legal hr hl
  exact ⟨t, h, exec_next_frame h, exec_next_empty h hempty⟩

/-- Settles O48: the operand is the `XLEN`-bit register sign-extended, or cut where `XLEN` is the larger. -/
theorem scalarOperandIsTheLowBitsOrTheSignExtension : Obligations.ScalarOperandIsTheLowBitsOrTheSignExtension := by
  intro s w rs1 _
  refine ⟨fun hle b hb => ?low, fun hlt => ?signed, ?zero⟩
  case low =>
    have hbx : b < s.xbits := hb.trans_le hle
    rw [State.scalarOperand, BitVec.getLsbD_signExtend, BitVec.getLsbD_setWidth]
    simp [hb, hbx]
  case signed => exact BitVec.toInt_signExtend_of_le hlt.le
  case zero =>
    rintro rfl
    exact operand_x0 s w 0

end Sys2Proof.Machine
end

section
/-! PROOFS. Add and subtract: an instruction of the family is a run of its shape whose element function, in the exact
integers of the rules, is an addition or subtraction of bit vectors (41_add_sub.md R140 to R167; 00_scope.md R13). -/

namespace Sys2Proof

/-- A word that is an instruction's encoding decodes to that instruction (R73). -/
theorem decodeTableWord_of_encode {w : Nat} {i : Instr} (h : (encode i).toNat = w) : decodeTableWord 32 w = some i :=
  h ▸ decodeTableWord_of_instr (decodeWord_encode i)

/-- Settles O7: each word is the encoding of its instruction, and the decoder reads every encoding back. -/
theorem specWordsDecode : Obligations.SpecWordsDecode := by
  refine ⟨?_, ?_, ?_, ?_, ?_, ?_, ?_, ?_, ?_, ?_, ?_, ?_⟩
  all_goals exact decodeTableWord_of_encode (by decide)

end Sys2Proof

namespace Sys2Proof.Machine

/-! ### A run whose active elements are known by another formula (R107, R116) -/

section
variable {i : Instr} {s : State} {active : Nat → Bool}

/-- `single_result` for the instruction itself, the element function `f` of its meaning restated as `g`. -/
theorem single_completes {f g : Nat → BitVec s.sew} (hr : Ready s = true) (hl : Legal s i = true)
    (hk : i.form.kind = .single ∨ i.form.kind = .mac ∨ i.form.kind = .move ∨ i.form.kind = .narrow ∨
      ∃ k, i.form.kind = .ext k)
    (hrun : exec i s = s.guarded (encode i) (s.shapeOf i.form)
      (s.complete (s.writeData i.form.vd.toNat s.sew s.lmul8 active f)))
    (hfg : ∀ e, f e = g e) :
    ∃ t, exec i s = .next t ∧ Frame s t ∧ DataDest s t i.form.vd s.sew s.lmul8 active g := by
  rw [hrun, ← funext hfg]
  exact single_result i s active f hr hl hk

/-- `wide_result` for the instruction itself, the element function `f` of its meaning restated as `g`. -/
theorem wide_completes {f g : Nat → BitVec (2 * s.sew)} (hr : Ready s = true) (hl : Legal s i = true)
    (hk : i.form.kind = .widen ∨ i.form.kind = .widenMac ∨ i.form.kind = .widenWide)
    (hrun : exec i s = s.guarded (encode i) (s.shapeOf i.form)
      (s.complete (s.writeData i.form.vd.toNat (2 * s.sew) (2 * s.lmul8) active f)))
    (hfg : ∀ e, f e = g e) :
    ∃ t, exec i s = .next t ∧ Frame s t ∧ DataDest s t i.form.vd (2 * s.sew) (2 * s.lmul8) active g := by
  rw [hrun, ← funext hfg]
  exact wide_result i s active f hr hl hk

end

/-! ### The statements -/

/-- Settles O27: whatever the second operand is, the element function is `fAdd`, `fSub` or `fRsub`. -/
theorem addSubtractReverseSubtractResults : Obligations.AddSubtractReverseSubtractResults := by
  refine ⟨?vaddVV, ?vaddVX, ?vaddVI, ?vsubVV, ?vsubVX, ?vrsubVX, ?vrsubVI⟩
  all_goals intro s vd vs2 src vm hr hl
  case vaddVV | vaddVX | vaddVI => exact single_completes hr hl (.inl rfl) rfl fun _ => fAdd_eq _ _ _
  case vsubVV | vsubVX => exact single_completes hr hl (.inl rfl) rfl fun _ => fSub_eq _ _ _
  case vrsubVX | vrsubVI => exact single_completes hr hl (.inl rfl) rfl fun _ => fRsub_eq _ _ _

/-- Settles O28: the exact sum or difference, cut to `2*SEW` bits, is that of the extended operands. -/
theorem wideningAddSubtractResults : Obligations.WideningAddSubtractResults := by
  refine ⟨?vwadduVV, ?vwadduVX, ?vwsubuVV, ?vwsubuVX, ?vwaddVV, ?vwaddVX, ?vwsubVV, ?vwsubVX⟩
  all_goals intro s vd vs2 src vm hr hl
  case vwadduVV | vwadduVX => exact wide_completes hr hl (.inl rfl) rfl fun _ => fWaddu_eq _ _ _
  case vwsubuVV | vwsubuVX => exact wide_completes hr hl (.inl rfl) rfl fun _ => fWsubu_eq _ _ _
  case vwaddVV | vwaddVX => exact wide_completes hr hl (.inl rfl) rfl fun _ => fWadd_eq _ _ _
  case vwsubVV | vwsubVX => exact wide_completes hr hl (.inl rfl) rfl fun _ => fWsub_eq _ _ _

/-- Settles O29: as for O28, with `vs2` at `2*SEW` already. -/
theorem wideningAddSubtractWideResults : Obligations.WideningAddSubtractWideResults := by
  refine ⟨?vwadduWV, ?vwadduWX, ?vwsubuWV, ?vwsubuWX, ?vwaddWV, ?vwaddWX, ?vwsubWV, ?vwsubWX⟩
  all_goals intro s vd vs2 src vm hr hl
  case vwadduWV | vwadduWX => exact wide_completes hr hl (.inr (.inr rfl)) rfl fun _ => fWadduW_eq _ _ _
  case vwsubuWV | vwsubuWX => exact wide_completes hr hl (.inr (.inr rfl)) rfl fun _ => fWsubuW_eq _ _ _
  case vwaddWV | vwaddWX => exact wide_completes hr hl (.inr (.inr rfl)) rfl fun _ => fWaddW_eq _ _ _
  case vwsubWV | vwsubWX => exact wide_completes hr hl (.inr (.inr rfl)) rfl fun _ => fWsubW_eq _ _ _

end Sys2Proof.Machine
end

section
/-! PROOFS. Integer extension: an instruction of the family is a run of shape Xk whose element function, a truncation of
the exact value of the narrow element, is the zero or sign extension of bit vectors (42_extension.md R170 to R177;
00_scope.md R10, R13). -/

namespace Sys2Proof.Machine

/-! ### The element functions -/

/-- R172, R174, R176. -/
theorem fZext_eq (n m : Nat) (a : BitVec n) : fZext n m a = a.setWidth m := trunc_uint_wide n m a

/-- R173, R175, R177. -/
theorem fSext_eq (n m : Nat) (a : BitVec n) : fSext n m a = a.signExtend m := trunc_sint_wide n m a

/-! ### The statement -/

/-- Settles O30: at each divisor of `SEW` the element function is `fZext` or `fSext`. -/
theorem extensionResults : Obligations.ExtensionResults := by
  refine ⟨?vzextVF2, ?vsextVF2, ?vzextVF4, ?vsextVF4, ?vzextVF8, ?vsextVF8⟩
  all_goals intro s vd vs2 vm hr hl
  case vzextVF2 | vzextVF4 | vzextVF8 =>
    exact single_completes hr hl (.inr (.inr (.inr (.inr ⟨_, rfl⟩)))) rfl fun _ => fZext_eq _ _ _
  case vsextVF2 | vsextVF4 | vsextVF8 =>
    exact single_completes hr hl (.inr (.inr (.inr (.inr ⟨_, rfl⟩)))) rfl fun _ => fSext_eq _ _ _

end Sys2Proof.Machine
end

section
/-! PROOFS. Add-with-carry and subtract-with-borrow: an instruction of the family is a run of shape S or M that writes
every body element, with the bit of `v0` an operand and never a selector (43_carry.md R180 to R199;
40_execution_model.md R118). -/

namespace Sys2Proof.Machine

/-- `mask_result` for the instruction itself, the bit function `f` of its meaning restated as `g`. -/
theorem mask_completes {i : Instr} {s : State} {active f g : Nat → Bool} (hr : Ready s = true) (hl : Legal s i = true)
    (hrun : exec i s = s.guarded (encode i) (s.shapeOf i.form)
      (s.complete (s.writeMask i.form.vd.toNat active f)))
    (hfg : ∀ e, f e = g e) :
    ∃ t, exec i s = .next t ∧ Frame s t ∧ MaskDest s t i.form.vd active g := by
  rw [hrun, ← funext hfg]
  exact mask_result i s active f hr hl

/-! ### The statements -/

/-- Settles O31: whatever the second operand is, the element function is `fAdc` or `fSbc`. -/
theorem addWithCarrySubtractWithBorrowResults : Obligations.AddWithCarrySubtractWithBorrowResults := by
  refine ⟨?vadcVVM, ?vadcVXM, ?vadcVIM, ?vsbcVVM, ?vsbcVXM⟩
  all_goals intro s vd vs2 src hr hl
  case vadcVVM | vadcVXM | vadcVIM => exact single_completes hr hl (.inl rfl) rfl fun _ => fAdc_eq _ _ _ _
  case vsbcVVM | vsbcVXM => exact single_completes hr hl (.inl rfl) rfl fun _ => fSbc_eq _ _ _ _

/-- Settles O32: the bit function is `carryOut` or `borrowOut`, at the bit of `v0` or at 0. The comparison with `2^SEW`,
or of the difference with 0, in the integers of the rules is the one over the naturals. -/
theorem carryOutBorrowOutResults : Obligations.CarryOutBorrowOutResults := by
  refine ⟨?vmadcVVM, ?vmadcVXM, ?vmadcVIM, ?vmadcVV, ?vmadcVX, ?vmadcVI, ?vmsbcVVM, ?vmsbcVXM, ?vmsbcVV, ?vmsbcVX⟩
  all_goals intro s vd vs2 src hr hl
  case vmadcVVM | vmadcVXM | vmadcVIM | vmadcVV | vmadcVX | vmadcVI =>
    exact mask_completes hr hl rfl fun _ => carryOut_eq _ _ _ _
  case vmsbcVVM | vmsbcVXM | vmsbcVV | vmsbcVX =>
    exact mask_completes hr hl rfl fun _ => borrowOut_eq _ _ _ _

end Sys2Proof.Machine
end

section
/-! PROOFS. Bitwise logical, shift and narrowing shift: an instruction of the family is a run of shape S or N. The
element function of a logical instruction is the bit-vector operation itself; that of a shift, a multiplication or a
floor division by a power of two in the exact integers of the rules, is a bit-vector shift (44_logical_shift.md R200 to
R227; 00_scope.md R13). -/

namespace Sys2Proof.Machine

/-! ### The element functions -/

/-- R211 to R213. -/
theorem fSll_eq (n : Nat) (a b : BitVec n) : fSll n a b = a <<< (b.toNat % n) := sll_eq n a _

/-- R214 to R216. -/
theorem fSrl_eq (n : Nat) (a b : BitVec n) : fSrl n a b = a >>> (b.toNat % n) := srl_eq n a _

/-- R217 to R219. -/
theorem fSra_eq (n : Nat) (a b : BitVec n) : fSra n a b = a.sshiftRight (b.toNat % n) := sra_eq n a _

/-- R222 to R224. -/
theorem fNsrl_eq (n : Nat) (a : BitVec (2 * n)) (b : BitVec n) :
    fNsrl n a b = (a >>> (b.toNat % (2 * n))).setWidth n := by
  rw [fNsrl, srl_eq]

/-- R225 to R227. -/
theorem fNsra_eq (n : Nat) (a : BitVec (2 * n)) (b : BitVec n) :
    fNsra n a b = (a.sshiftRight (b.toNat % (2 * n))).setWidth n := by
  rw [fNsra, sra_eq]

/-! ### The amount of an immediate shift (R115, D14) -/

/-- R29: the least `SEW` is 8, so an element holds the 5-bit field of an immediate. -/
theorem five_le_sew (s : State) : 5 ≤ s.sew := by
  have hpow : 1 ≤ 2 ^ s.vtype.vsew.toNat := Nat.one_le_two_pow
  unfold State.sew
  omega

theorem shiftAmount_uimm (s : State) (uimm : BitVec 5) (e : Nat) :
    (s.operand (.uimm uimm) s.sew e).toNat = uimm.toNat :=
  operand_uimm_toNat s uimm e (five_le_sew s)

/-! ### The statements -/

/-- Settles O33: whatever the second operand is, the element function is `fAnd`, `fOr` or `fXor`, each by definition the
operation on bit vectors. -/
theorem bitwiseLogicalResults : Obligations.BitwiseLogicalResults := by
  refine ⟨?_, ?_, ?_, ?_, ?_, ?_, ?_, ?_, ?_⟩
  all_goals
    intro s vd vs2 src vm hr hl
    exact single_completes hr hl (.inl rfl) rfl fun _ => rfl

/-- Settles O34: the element function is `fSll`, `fSrl` or `fSra`, at an amount the immediate forms take unsigned. -/
theorem shiftResults : Obligations.ShiftResults := by
  refine ⟨?vsllVV, ?vsllVX, ?vsllVI, ?vsrlVV, ?vsrlVX, ?vsrlVI, ?vsraVV, ?vsraVX, ?vsraVI⟩
  all_goals intro s vd vs2 src vm hr hl
  case vsllVV | vsllVX => exact single_completes hr hl (.inl rfl) rfl fun _ => fSll_eq _ _ _
  case vsrlVV | vsrlVX => exact single_completes hr hl (.inl rfl) rfl fun _ => fSrl_eq _ _ _
  case vsraVV | vsraVX => exact single_completes hr hl (.inl rfl) rfl fun _ => fSra_eq _ _ _
  case vsllVI => exact single_completes hr hl (.inl rfl) rfl fun e => shiftAmount_uimm s src e ▸ fSll_eq _ _ _
  case vsrlVI => exact single_completes hr hl (.inl rfl) rfl fun e => shiftAmount_uimm s src e ▸ fSrl_eq _ _ _
  case vsraVI => exact single_completes hr hl (.inl rfl) rfl fun e => shiftAmount_uimm s src e ▸ fSra_eq _ _ _

/-- Settles O35: as for O34, the element function being `fNsrl` or `fNsra` of the `2*SEW`-bit element. -/
theorem narrowingShiftResults : Obligations.NarrowingShiftResults := by
  refine ⟨?vnsrlWV, ?vnsrlWX, ?vnsrlWI, ?vnsraWV, ?vnsraWX, ?vnsraWI⟩
  all_goals intro s vd vs2 src vm hr hl
  case vnsrlWV | vnsrlWX =>
    exact single_completes hr hl (.inr (.inr (.inr (.inl rfl)))) rfl fun _ => fNsrl_eq _ _ _
  case vnsraWV | vnsraWX =>
    exact single_completes hr hl (.inr (.inr (.inr (.inl rfl)))) rfl fun _ => fNsra_eq _ _ _
  case vnsrlWI =>
    exact single_completes hr hl (.inr (.inr (.inr (.inl rfl)))) rfl fun e =>
      shiftAmount_uimm s src e ▸ fNsrl_eq _ _ _
  case vnsraWI =>
    exact single_completes hr hl (.inr (.inr (.inr (.inl rfl)))) rfl fun e =>
      shiftAmount_uimm s src e ▸ fNsra_eq _ _ _

end Sys2Proof.Machine
end

section
/-! PROOFS. Comparison: an instruction of the family is a run of shape M whose bit function, a comparison in the exact
integers of the rules, is one of bit vectors, so that its results are `mask_completes` at the equations `cmp*_eq`. Two
comparisons in a row (R254) need in addition what the first leaves to the second: the configuration and the elements of
every group above the mask register (45_compare.md R230 to R254; 40_execution_model.md R117, R120). -/

namespace Sys2Proof.Machine

/-! ### The statements about one comparison -/

/-- Settles O36: whatever the second operand is, the bit function is `cmpEq` or `cmpNe`. -/
theorem equalityComparisonResults : Obligations.EqualityComparisonResults := by
  refine ⟨?vmseqVV, ?vmseqVX, ?vmseqVI, ?vmsneVV, ?vmsneVX, ?vmsneVI⟩
  all_goals intro s vd vs2 src vm hr hl
  case vmseqVV | vmseqVX | vmseqVI => exact mask_completes hr hl rfl fun _ => cmpEq_eq _ _ _
  case vmsneVV | vmsneVX | vmsneVI => exact mask_completes hr hl rfl fun _ => cmpNe_eq _ _ _

/-- Settles O37: as for O36, the bit function being `cmpLtu`, `cmpLeu` or `cmpGtu`. -/
theorem unsignedComparisonResults : Obligations.UnsignedComparisonResults := by
  refine ⟨?vmsltuVV, ?vmsltuVX, ?vmsleuVV, ?vmsleuVX, ?vmsleuVI, ?vmsgtuVX, ?vmsgtuVI⟩
  all_goals intro s vd vs2 src vm hr hl
  case vmsltuVV | vmsltuVX => exact mask_completes hr hl rfl fun _ => cmpLtu_eq _ _ _
  case vmsleuVV | vmsleuVX | vmsleuVI => exact mask_completes hr hl rfl fun _ => cmpLeu_eq _ _ _
  case vmsgtuVX | vmsgtuVI => exact mask_completes hr hl rfl fun _ => cmpGtu_eq _ _ _

/-- Settles O38: as for O36, the bit function being `cmpLt`, `cmpLe` or `cmpGt`. -/
theorem signedComparisonResults : Obligations.SignedComparisonResults := by
  refine ⟨?vmsltVV, ?vmsltVX, ?vmsleVV, ?vmsleVX, ?vmsleVI, ?vmsgtVX, ?vmsgtVI⟩
  all_goals intro s vd vs2 src vm hr hl
  case vmsltVV | vmsltVX => exact mask_completes hr hl rfl fun _ => cmpLt_eq _ _ _
  case vmsleVV | vmsleVX | vmsleVI => exact mask_completes hr hl rfl fun _ => cmpLe_eq _ _ _
  case vmsgtVX | vmsgtVI => exact mask_completes hr hl rfl fun _ => cmpGt_eq _ _ _

/-! ### What a completed instruction leaves to the next one (R120) -/

section
variable {s t : State}

theorem Frame.vlen (h : Frame s t) : t.vlen = s.vlen := by
  unfold State.vlen
  rw [h.cfg]

theorem Frame.elen (h : Frame s t) : t.elen = s.elen := by
  unfold State.elen
  rw [h.cfg]

theorem Frame.sew (h : Frame s t) : t.sew = s.sew := by
  unfold State.sew
  rw [h.vtype]

theorem Frame.lmul8 (h : Frame s t) : t.lmul8 = s.lmul8 := by
  unfold State.lmul8
  rw [h.vtype]

theorem Frame.vlmax (h : Frame s t) : t.vlmax = s.vlmax := by
  unfold State.vlmax
  rw [h.lmul8, h.vlen, h.sew]

theorem Frame.supported (h : Frame s t) : t.supported = s.supported := by
  unfold State.supported
  rw [h.vtype, h.sew, h.elen, h.lmul8]

theorem Frame.legal (h : Frame s t) (i : Instr) : Legal t i = Legal s i := by
  unfold Legal
  rw [h.sew, h.elen, h.lmul8]

/-- R104: `vstart` is 0 after completion, so it does not trap. -/
theorem Frame.ready (h : Frame s t) (hr : Ready s = true) : Ready t = true := by
  obtain ⟨-, hvill, hc, -⟩ := (ready_iff s).mp hr
  obtain ⟨hparams, hsupported, hvl, -⟩ := (launchOk_iff s).mp hc
  refine (ready_iff t).mpr ⟨by simp [h.vs], h.vtype ▸ hvill, (launchOk_iff t).mpr ⟨?_, ?_, ?_, ?_⟩, .inl h.vstart⟩
  · rwa [h.elen, h.vlen]
  · rwa [h.supported]
  · rwa [h.vl, h.vlmax]
  · rw [h.vstart]
    exact vlen_pos t

/-- A group that begins above the mask register does not hold it. -/
theorem MaskDest.velem_above {vd r : RegNum} {active f : Nat → Bool} (hm : MaskDest s t vd active f) (h : Frame s t)
    (hr : vd.toNat < r.toNat) (w e : Nat) : t.velem r.toNat w e = s.velem r.toNat w e := by
  unfold State.velem elemOf
  rw [h.vlen, hm.others _ (Nat.lt_add_right _ hr).ne']

/-- R107, R110: with `vstart` 0 and `vma` 0, a body bit is the result where it is active, else its old value. -/
theorem MaskDest.onBody {vd : RegNum} {active f : Nat → Bool} (hm : MaskDest s t vd active f) (hvstart : s.vstart = 0)
    (hvma : s.vtype.vma = false) {e : Nat} (he : e < s.vl.toNat) :
    t.vmask vd.toNat e = if active e then f e else s.vmask vd.toNat e := by
  have hstart : s.vstart.toNat ≤ e := by simp [hvstart]
  cases hact : active e with
  | true => exact hm.onActive e hstart he hact
  | false =>
    rcases hm.onInactive e hstart he hact with hold | ⟨hagnostic, -⟩
    · exact hold
    · cases hvma.symm.trans hagnostic

/-- R109: a source group of a masked instruction begins above `v0`. -/
theorem legal_masked_sources {i : Instr} (hl : Legal s i = true) (hv0 : i.form.readsV0 = true) {r : RegNum}
    (hr : i.form.vs2 = some r ∨ i.form.vs1 = some r) : 0 < r.toNat := by
  obtain ⟨-, hsources⟩ := legal_wellFormed hl
  rw [Nat.pos_iff_ne_zero]
  intro hzero
  obtain rfl : r = 0 := BitVec.eq_of_toNat_eq hzero
  rcases hr with hr | hr <;> simp [Form.sourcesOffMask, hv0, hr] at hsources

end

/-! ### Two comparisons in a row -/

/-- Settles O58: the first comparison leaves its bits in `v0` and every other register alone, so the second compares the
original elements where the first bit is 1 and keeps that bit where it is 0. -/
theorem chainedComparisonsAndUnderUndisturbedMask : Obligations.ChainedComparisonsAndUnderUndisturbedMask := by
  intro s va vb vc hr hvstart hvma hl₁ hl₂
  obtain ⟨hvmslt, -⟩ := signedComparisonResults
  obtain ⟨t, hexec₁, hframe, hmask₁⟩ := hvmslt s 0 va vb true hr hl₁
  obtain ⟨u, hexec₂, -, hmask₂⟩ := hvmslt t 0 vb vc false (hframe.ready hr) (by rwa [hframe.legal])
  refine ⟨t, u, hexec₁, hexec₂, fun e he => ?_⟩
  have hfirst : t.vmask 0 e = (s.velem va.toNat s.sew e).slt (s.velem vb.toNat s.sew e) :=
    hmask₁.onBody hvstart hvma he
  have hsecond : u.vmask 0 e =
      if t.vmask 0 e then (t.velem vb.toNat t.sew e).slt (t.velem vc.toNat t.sew e) else t.vmask 0 e :=
    hmask₂.onBody hframe.vstart (by rw [hframe.vtype, hvma]) (by rwa [hframe.vl])
  have hvb : t.velem vb.toNat s.sew e = s.velem vb.toNat s.sew e :=
    hmask₁.velem_above hframe (legal_masked_sources hl₂ rfl (.inl rfl)) _ _
  have hvc : t.velem vc.toNat s.sew e = s.velem vc.toNat s.sew e :=
    hmask₁.velem_above hframe (legal_masked_sources hl₂ rfl (.inr rfl)) _ _
  rw [hsecond, hframe.sew, hvb, hvc, ← hfirst]
  cases t.vmask 0 e <;> rfl

end Sys2Proof.Machine
end

section
/-! PROOFS. Minimum and maximum, multiply, divide and remainder, widening multiply: an instruction of the family is a
run of shape S or W whose element function, in the exact integers of the rules, is one of bit vectors (46_minmax_mul_div.md
R260 to R296; 00_scope.md R13). The table of R281 comes first, row by row, then the division identity, and at the end
the statements. -/

namespace Sys2Proof.Machine

/-! ### The table of the division functions (R281) -/

section
variable {n : Nat} {a b : BitVec n}

/-- The column `b = 0`. -/
theorem division_by_zero (a : BitVec n) :
    fDivu n a 0 = BitVec.allOnes n ∧ fRemu n a 0 = a ∧ fDiv n a 0 = BitVec.allOnes n ∧ fRem n a 0 = a := by
  rw [fDivu_eq, fRemu_eq, fDiv_eq, fRem_eq]
  exact ⟨if_pos rfl, if_pos rfl, if_pos rfl, if_pos rfl⟩

theorem fDivu_toNat (hb : b ≠ 0) : (fDivu n a b).toNat = a.toNat / b.toNat := by
  rw [fDivu_eq, if_neg hb, BitVec.toNat_udiv]

theorem fRemu_toNat (hb : b ≠ 0) : (fRemu n a b).toNat = a.toNat % b.toNat := by
  rw [fRemu_eq, if_neg hb, BitVec.toNat_umod]

/-- The two bit patterns at which `BitVec.sdiv` overflows are an overflow of the table. -/
theorem overflow_of_intMin_negOne (hn : 0 < n) (ha : a = BitVec.intMin n) (hb : b = -1#n) :
    a.toInt = -(2 ^ (n - 1)) ∧ b.toInt = -1 := by
  rw [ha, hb, BitVec.toInt_intMin_of_pos hn, BitVec.neg_one_eq_allOnes, BitVec.toInt_allOnes, if_pos hn]
  exact ⟨rfl, rfl⟩

theorem fDiv_toInt (hn : 0 < n) (hb : b ≠ 0) (hfits : ¬ (a.toInt = -(2 ^ (n - 1)) ∧ b.toInt = -1)) :
    (fDiv n a b).toInt = a.toInt.tdiv b.toInt := by
  have hpattern : a ≠ BitVec.intMin n ∨ b ≠ -1#n := by
    by_contra! hboth
    obtain ⟨hmin, hneg⟩ := hboth
    exact hfits (overflow_of_intMin_negOne hn hmin hneg)
  rw [fDiv_eq, if_neg hb, BitVec.toInt_sdiv_of_ne_or_ne a b hpattern]

/-- The remainder fits whatever the operands are. -/
theorem fRem_toInt (hb : b ≠ 0) : (fRem n a b).toInt = a.toInt.tmod b.toInt := by
  rw [fRem_eq, if_neg hb, BitVec.toInt_srem]

/-- A remainder that rounds toward zero has the sign of the dividend. -/
theorem tmod_neg_iff {x y : Int} (h : x.tmod y ≠ 0) : x.tmod y < 0 ↔ x < 0 := by
  have hsign : (x.tmod y).sign = x.sign := by
    rw [Int.sign_tmod, if_neg (mt Int.tmod_eq_zero_of_dvd h)]
  rw [← Int.sign_eq_neg_one_iff_neg, hsign, Int.sign_eq_neg_one_iff_neg]

/-- The column of signed overflow. -/
theorem division_overflow (ha : a.toInt = -(2 ^ (n - 1))) (hb : b.toInt = -1) : fDiv n a b = a ∧ fRem n a b = 0 := by
  have hzero : ¬ uint b = 0 := by
    intro h
    obtain rfl : b = 0 := by simpa [uint, BitVec.toNat_eq] using h
    simp at hb
  unfold fDiv fRem
  rw [if_neg hzero, if_neg hzero]
  exact ⟨if_pos ⟨ha, hb⟩, if_pos ⟨ha, hb⟩⟩

end

/-! ### Dividend = quotient * divisor + remainder, modulo `2^N` (R281) -/

theorem unsigned_division_identity (n : Nat) (a b : BitVec n) : a = fDivu n a b * b + fRemu n a b := by
  rw [fDivu_eq, fRemu_eq]
  split
  case isTrue hb => simp [hb]
  case isFalse hb =>
    apply BitVec.eq_of_toNat_eq
    rw [BitVec.toNat_add, BitVec.toNat_mul, BitVec.toNat_udiv, BitVec.toNat_umod, Nat.mod_add_mod, Nat.div_add_mod',
      Nat.mod_eq_of_lt a.isLt]

/-- The identity of the exact integers, truncated. -/
theorem signed_division_identity (n : Nat) (a b : BitVec n) : a = fDiv n a b * b + fRem n a b := by
  rw [fDiv_eq, fRem_eq]
  split
  case isTrue hb => simp [hb]
  case isFalse hb =>
    calc a = trunc n ((sint a).tdiv (sint b) * sint b + (sint a - (sint a).tdiv (sint b) * sint b)) := by
          rw [add_sub_cancel, trunc_sint]
      _ = a.sdiv b * b + a.srem b := by rw [trunc_add, trunc_mul, trunc_tdiv, trunc_sint, trunc_trem]

/-! ### The statements -/

/-- Settles O39: whichever way the rule breaks the tie, equal operands are the same bits. -/
theorem minimumMaximumResults : Obligations.MinimumMaximumResults := by
  refine ⟨?vminuVV, ?vminuVX, ?vminVV, ?vminVX, ?vmaxuVV, ?vmaxuVX, ?vmaxVV, ?vmaxVX⟩
  all_goals intro s vd vs2 src vm hr hl
  case vminuVV | vminuVX => exact single_completes hr hl (.inl rfl) rfl fun _ => fMinu_eq _ _ _
  case vminVV | vminVX => exact single_completes hr hl (.inl rfl) rfl fun _ => fMin_eq _ _ _
  case vmaxuVV | vmaxuVX => exact single_completes hr hl (.inl rfl) rfl fun _ => fMaxu_eq _ _ _
  case vmaxVV | vmaxVX => exact single_completes hr hl (.inl rfl) rfl fun _ => fMax_eq _ _ _

/-- Settles O40: the floor of the exact product by `2^SEW` is the high half of the `2*SEW`-bit one. -/
theorem multiplyResults : Obligations.MultiplyResults := by
  refine ⟨?vmulVV, ?vmulVX, ?vmulhVV, ?vmulhVX, ?vmulhuVV, ?vmulhuVX, ?vmulhsuVV, ?vmulhsuVX⟩
  all_goals intro s vd vs2 src vm hr hl
  case vmulVV | vmulVX => exact single_completes hr hl (.inl rfl) rfl fun _ => fMul_eq _ _ _
  case vmulhVV | vmulhVX => exact single_completes hr hl (.inl rfl) rfl fun _ => fMulh_eq _ _ _
  case vmulhuVV | vmulhuVX => exact single_completes hr hl (.inl rfl) rfl fun _ => fMulhu_eq _ _ _
  case vmulhsuVV | vmulhsuVX => exact single_completes hr hl (.inl rfl) rfl fun _ => fMulhsu_eq _ _ _

/-- Settles O41: division of bit vectors has the overflow case of the table already, so that only the zero divisor is a
case of its own. -/
theorem divideRemainderResults : Obligations.DivideRemainderResults := by
  refine ⟨?vdivuVV, ?vdivuVX, ?vdivVV, ?vdivVX, ?vremuVV, ?vremuVX, ?vremVV, ?vremVX⟩
  all_goals intro s vd vs2 src vm hr hl
  case vdivuVV | vdivuVX => exact single_completes hr hl (.inl rfl) rfl fun _ => fDivu_eq _ _ _
  case vdivVV | vdivVX => exact single_completes hr hl (.inl rfl) rfl fun _ => fDiv_eq _ _ _
  case vremuVV | vremuVX => exact single_completes hr hl (.inl rfl) rfl fun _ => fRemu_eq _ _ _
  case vremVV | vremVX => exact single_completes hr hl (.inl rfl) rfl fun _ => fRem_eq _ _ _

/-- Settles O42: the exact product, cut to `2*SEW` bits, is that of the extended operands. -/
theorem wideningMultiplyResults : Obligations.WideningMultiplyResults := by
  refine ⟨?vwmulVV, ?vwmulVX, ?vwmuluVV, ?vwmuluVX, ?vwmulsuVV, ?vwmulsuVX⟩
  all_goals intro s vd vs2 src vm hr hl
  case vwmulVV | vwmulVX => exact wide_completes hr hl (.inl rfl) rfl fun _ => fWmul_eq _ _ _
  case vwmuluVV | vwmuluVX => exact wide_completes hr hl (.inl rfl) rfl fun _ => fWmulu_eq _ _ _
  case vwmulsuVV | vwmulsuVX => exact wide_completes hr hl (.inl rfl) rfl fun _ => fWmulsu_eq _ _ _

/-- Settles O47: the rows of the table and the identity, and the eight instructions run the four functions. -/
theorem divisionFunctionsAreAsTheTableSays : Obligations.DivisionFunctionsAreAsTheTableSays := by
  refine ⟨fun n a b hn => ⟨?ordinaryUnsigned, ?zeroDivisor, ?ordinarySigned, division_overflow,
    unsigned_division_identity n a b, signed_division_identity n a b⟩, ?completion⟩
  case ordinaryUnsigned => exact fun hb => ⟨fDivu_toNat hb, fRemu_toNat hb⟩
  case zeroDivisor =>
    rintro rfl
    exact division_by_zero a
  case ordinarySigned =>
    intro hb hfits
    rw [fRem_toInt hb]
    exact ⟨fDiv_toInt hn hb hfits, by rw [Int.tmod_def, mul_comm], tmod_neg_iff⟩
  case completion =>
    intro s vd vs2 vs1 vm i hi hr hl
    simp only [List.mem_cons, List.not_mem_nil, or_false] at hi
    rcases hi with rfl | rfl | rfl | rfl | rfl | rfl | rfl | rfl
    all_goals exact single_completes hr hl (.inl rfl) rfl fun _ => rfl

end Sys2Proof.Machine
end

section
/-! PROOFS. Multiply-add: an instruction of the family is a run that also reads its destination, whose element function,
in the exact integers of the rules, is one of bit vectors (47_multiply_add.md R300 to R317; 00_scope.md R13). -/

namespace Sys2Proof.Machine

/-- Settles O43: whatever the second operand is, the element function is `fMacc`, `fNmsac`, `fMadd` or `fNmsub` at the
old destination. -/
theorem multiplyAddResults : Obligations.MultiplyAddResults := by
  refine ⟨?vmaccVV, ?vmaccVX, ?vnmsacVV, ?vnmsacVX, ?vmaddVV, ?vmaddVX, ?vnmsubVV, ?vnmsubVX⟩
  all_goals intro s vd src vs2 vm hr hl
  case vmaccVV | vmaccVX => exact single_completes hr hl (.inr (.inl rfl)) rfl fun _ => fMacc_eq _ _ _ _
  case vnmsacVV | vnmsacVX => exact single_completes hr hl (.inr (.inl rfl)) rfl fun _ => fNmsac_eq _ _ _ _
  case vmaddVV | vmaddVX => exact single_completes hr hl (.inr (.inl rfl)) rfl fun _ => fMadd_eq _ _ _ _
  case vnmsubVV | vnmsubVX => exact single_completes hr hl (.inr (.inl rfl)) rfl fun _ => fNmsub_eq _ _ _ _

/-- Settles O44: the exact product plus the old element, cut to `2*SEW` bits, is that of the extended operands. -/
theorem wideningMultiplyAddResults : Obligations.WideningMultiplyAddResults := by
  refine ⟨?vwmaccuVV, ?vwmaccuVX, ?vwmaccVV, ?vwmaccVX, ?vwmaccsuVV, ?vwmaccsuVX, ?vwmaccusVX⟩
  all_goals intro s vd src vs2 vm hr hl
  case vwmaccuVV | vwmaccuVX => exact wide_completes hr hl (.inr (.inl rfl)) rfl fun _ => fWmaccu_eq _ _ _ _
  case vwmaccVV | vwmaccVX => exact wide_completes hr hl (.inr (.inl rfl)) rfl fun _ => fWmacc_eq _ _ _ _
  case vwmaccsuVV | vwmaccsuVX => exact wide_completes hr hl (.inr (.inl rfl)) rfl fun _ => fWmaccsu_eq _ _ _ _
  case vwmaccusVX => exact wide_completes hr hl (.inr (.inl rfl)) rfl fun _ => fWmaccus_eq _ _ _ _

end Sys2Proof.Machine
end

section
/-! PROOFS. Merge and move: a run of shape S or MV that writes every body element. The hint `vmv.v.v vd, vd` (R328)
needs in addition that a register is its elements, so that a group with every element kept is kept bit by bit
(48_merge_move.md R320 to R328; 10_state.md R25). -/

namespace Sys2Proof.Machine

/-! ### The statements about one instruction -/

/-- Settles O45: whatever the second operand is, the element function is `fMerge`, by definition the choice on the bit
of `v0`. -/
theorem mergeResults : Obligations.MergeResults := by
  refine ⟨?vmergeVVM, ?vmergeVXM, ?vmergeVIM⟩
  all_goals
    intro s vd vs2 src hr hl
    exact single_completes hr hl (.inl rfl) rfl fun _ => rfl

/-- Settles O46: the element function is the second operand itself. -/
theorem moveResults : Obligations.MoveResults := by
  refine ⟨?vmvVV, ?vmvVX, ?vmvVI⟩
  all_goals
    intro s vd src hr hl
    exact single_completes hr hl (.inr (.inr (.inl rfl))) rfl fun _ => rfl

/-! ### A group that keeps its elements (R25) -/

/-- R25: bit `b` of register `q` of a group is a bit of the element that covers it. -/
theorem regOf_bit_eq_elem_bit (vlen : Nat) (v : Vector VWord 32) (r q w b : Nat) (hd : w ∣ vlen) (hb : b < vlen) :
    (regOf v (r + q)).getLsbD b = (elemOf vlen v r w (q * (vlen / w) + b / w)).getLsbD (b % w) := by
  obtain ⟨E, rfl⟩ := hd
  have hw : 0 < w := Nat.pos_of_mul_pos_right (Nat.zero_lt_of_lt hb)
  have hplace : b / w < E := Nat.div_lt_of_lt_mul hb
  have hreg : (q * E + b / w) / E = q := by
    rw [Nat.add_comm, Nat.add_mul_div_right _ _ (Nat.zero_lt_of_lt hplace), Nat.div_eq_of_lt hplace, Nat.zero_add]
  have helem : (q * E + b / w) % E = b / w := by
    rw [Nat.add_comm, Nat.add_mul_mod_self_right, Nat.mod_eq_of_lt hplace]
  rw [Nat.mul_div_cancel_left E hw, elemOf_getLsbD, Nat.mul_div_cancel_left E hw, hreg, helem, Nat.div_add_mod]
  simp [Nat.mod_lt b hw]

/-- A data destination whose every element, the tail included, holds its old value is a whole file unchanged. -/
theorem DataDest.regOf_eq {s t : State} {vd : RegNum} {w m8 : Nat} {active : Nat → Bool} {f : Nat → BitVec w}
    (h : DataDest s t vd w m8 active f) (hframe : Frame s t) (hd : w ∣ s.vlen)
    (hkept : ∀ e, e < regCount m8 * s.vlen / w → t.velem vd.toNat w e = s.velem vd.toNat w e) (r : Nat) :
    regOf t.v r = regOf s.v r := by
  by_cases hout : r < vd.toNat ∨ vd.toNat + regCount m8 ≤ r
  · exact h.others r hout
  obtain ⟨q, rfl⟩ : ∃ q, r = vd.toNat + q := ⟨r - vd.toNat, by omega⟩
  refine BitVec.eq_of_getLsbD_eq fun b _ => ?_
  by_cases hb : b < s.vlen
  · have hin : q * (s.vlen / w) + b / w < regCount m8 * s.vlen / w := by
      have hplace : b / w < s.vlen / w := Nat.div_lt_div_of_lt_of_dvd hd hb
      calc q * (s.vlen / w) + b / w < (q + 1) * (s.vlen / w) := by rw [Nat.succ_mul]; omega
        _ ≤ regCount m8 * (s.vlen / w) := Nat.mul_le_mul_right _ (by omega)
        _ = regCount m8 * s.vlen / w := (Nat.mul_div_assoc _ hd).symm
    have helem := hkept _ hin
    unfold State.velem at helem
    rw [hframe.vlen] at helem
    rw [regOf_bit_eq_elem_bit s.vlen t.v _ q w b hd hb, helem, ← regOf_bit_eq_elem_bit s.vlen s.v _ q w b hd hb]
  · exact h.high _ b (by omega)

/-! ### The hint -/

/-- Settles O57: each body element is moved onto itself and a prestart element is never written, so that under `vta` 0
no element of the group changes. -/
theorem moveOntoItselfLeavesBodyElements : Obligations.MoveOntoItselfLeavesBodyElements := by
  intro s vd hr hl
  obtain ⟨hvmv, -⟩ := moveResults
  obtain ⟨t, hexec, hframe, hdest⟩ := hvmv s vd vd hr hl
  have hbody : ∀ e, s.vstart.toNat ≤ e → e < s.vl.toNat → t.velem vd.toNat s.sew e = s.velem vd.toNat s.sew e :=
    fun e hstart hvl => hdest.onActive e hstart hvl rfl
  refine ⟨t, hexec, hframe, hbody, fun hvta => ?_, fun e hvl hend => ?_⟩
  · obtain ⟨-, -, hlaunch, -⟩ := (ready_iff s).mp hr
    obtain ⟨-, hd, -⟩ := single_fits s hlaunch vd (legal_single s _ hl (.inr (.inr (.inl rfl))))
    refine hdest.regOf_eq hframe hd fun e hend => ?_
    by_cases hstart : e < s.vstart.toNat
    · exact hdest.onPrestart e hstart hend
    by_cases hvl : e < s.vl.toNat
    · exact hbody e (by omega) hvl
    · rcases hdest.onTail e (by omega) hend with hold | ⟨hagnostic, -⟩
      · exact hold
      · cases hvta.symm.trans hagnostic
  · exact (hdest.onTail e hvl hend).imp_right And.right

end Sys2Proof.Machine
end

section
/-! PROOFS. The steps without a next state: a reserved word, a word outside the spec, no text at `pc` (60_exceptions.md
R331, R332; 30_encoding.md R89; 00_scope.md R19). -/

namespace Sys2Proof.Machine

section
variable {s : State} {w : Word32}

theorem step_of_reserved (hfetch : s.fetch = .ok w) (hdec : decodeWord w = .reserved) : step s = raise w := by
  simp only [step, hfetch, hdec]

theorem step_of_outside (hfetch : s.fetch = .ok w) (hdec : decodeWord w = .outside) :
    step s = .refused (.outsideTable w) := by
  simp only [step, hfetch, hdec]

theorem step_of_fetch_error {r : Refusal} (hfetch : s.fetch = .error r) : step s = .refused r := by
  simp only [step, hfetch]

theorem fetch_of_readByte_none (halign : s.pcAddr % 4 = 0) (h0 : s.readByte s.pcAddr = none) :
    s.fetch = .error .endOfText := by
  simp only [State.fetch, if_pos halign, h0]

end

/-- Settles O9: what the step does with each kind of word, and the fetch where the first byte is missing. -/
theorem stepOnReservedFaultsOnOutsideRefuses : Obligations.StepOnReservedFaultsOnOutsideRefuses :=
  fun _ _ => ⟨step_of_reserved, step_of_outside,
    fun halign h0 => step_of_fetch_error (fetch_of_readByte_none halign h0)⟩

end Sys2Proof.Machine
end

section
/-! PROOFS. The carry pair (70_reset_and_hazards.md R356; 43_carry.md R182, R183): the first instruction leaves the
operands of the second and `v0` alone, the second leaves the carries of the first alone, and the two results of one
element are the two digits, to the base `2^SEW`, of the exact sum or difference. -/

namespace Sys2Proof.Machine

/-! ### The two digits of one element -/

/-- R182. -/
theorem full_sum (n : Nat) (a b : BitVec n) (c : Bool) :
    (a + b + (BitVec.ofBool c).setWidth n).toNat + 2 ^ n * (decide (2 ^ n ≤ a.toNat + b.toNat + c.toNat)).toNat =
      a.toNat + b.toNat + c.toNat := by
  have ha := a.isLt
  have hb := b.isLt
  have hc := c.toNat_le
  have hsum : (a + b + (BitVec.ofBool c).setWidth n).toNat = (a.toNat + b.toNat + c.toNat) % 2 ^ n := by
    rw [BitVec.toNat_add, BitVec.toNat_add, BitVec.toNat_setWidth, BitVec.toNat_ofBool, ← Nat.add_mod]
  rw [hsum]
  by_cases hcarry : 2 ^ n ≤ a.toNat + b.toNat + c.toNat
  · rw [decide_eq_true hcarry, Bool.toNat_true, Nat.mod_eq_sub_mod hcarry, Nat.mod_eq_of_lt (by omega)]
    omega
  · rw [decide_eq_false hcarry, Bool.toNat_false, Nat.mod_eq_of_lt (by omega)]
    omega

/-- R183: adding `b` and the borrow-in to the difference gives `a` again, with a carry exactly where there was a
borrow. -/
theorem full_difference (n : Nat) (a b : BitVec n) (c : Bool) :
    a.toNat + 2 ^ n * (decide (a.toNat < b.toNat + c.toNat)).toNat =
      (a - b - (BitVec.ofBool c).setWidth n).toNat + b.toNat + c.toNat := by
  have hback : a - b - (BitVec.ofBool c).setWidth n + b + (BitVec.ofBool c).setWidth n = a := by
    rw [add_right_comm, sub_add_cancel, sub_add_cancel]
  have hsum := full_sum n (a - b - (BitVec.ofBool c).setWidth n) b c
  have hlt := (a - b - (BitVec.ofBool c).setWidth n).isLt
  rw [hback] at hsum
  generalize (a - b - (BitVec.ofBool c).setWidth n).toNat = d at hsum hlt ⊢
  by_cases hcarry : 2 ^ n ≤ d + b.toNat + c.toNat
  · rw [decide_eq_true hcarry, Bool.toNat_true] at hsum
    rw [decide_eq_true (by omega), Bool.toNat_true, hsum]
  · rw [decide_eq_false hcarry, Bool.toNat_false] at hsum
    rw [decide_eq_false (by omega), Bool.toNat_false, hsum]

/-! ### What each instruction of the pair leaves to the other -/

theorem disjoint_iff (r r' : RegNum) (m m' : Nat) :
    disjoint r m r' m' = true ↔ r.toNat + regCount m ≤ r'.toNat ∨ r'.toNat + regCount m' ≤ r.toNat := by
  simp [disjoint]

section
variable {s t : State} {m vd r : RegNum} {m8 w e : Nat} {active : Nat → Bool}

/-- R25: the elements of a group lie in its registers, so a group apart from the mask register keeps them. -/
theorem MaskDest.velem_disjoint {g : Nat → Bool} (h : MaskDest s t m active g) (hframe : Frame s t)
    (hdis : disjoint m 8 r m8 = true) (hd : w ∣ s.vlen) (he : e < regCount m8 * s.vlen / w) :
    t.velem r.toNat w e = s.velem r.toNat w e := by
  have hreg : e / (s.vlen / w) < regCount m8 := by
    rw [Nat.mul_div_assoc _ hd] at he
    exact Nat.div_lt_of_lt_mul (by rwa [Nat.mul_comm])
  have hone : regCount 8 = 1 := rfl
  rw [disjoint_iff] at hdis
  generalize hq : e / (s.vlen / w) = q at hreg
  unfold State.velem elemOf
  rw [hframe.vlen, hq, h.others _ (by omega)]

/-- A mask register other than the one written keeps its bits. -/
theorem MaskDest.vmask_ne {g : Nat → Bool} (h : MaskDest s t m active g) (hne : r ≠ m) :
    t.vmask r.toNat e = s.vmask r.toNat e := by
  unfold State.vmask maskOf
  rw [h.others _ (mt BitVec.eq_of_toNat_eq hne)]

/-- A mask register apart from the group written keeps its bits. -/
theorem DataDest.vmask_disjoint {f : Nat → BitVec w} (h : DataDest s t vd w m8 active f)
    (hdis : disjoint m 8 vd m8 = true) : t.vmask m.toNat e = s.vmask m.toNat e := by
  have hone : regCount 8 = 1 := rfl
  rw [disjoint_iff] at hdis
  unfold State.vmask maskOf
  rw [h.others _ (by omega)]

end

/-- The bits `g` that the first instruction writes to `m`, and the result `f` of the second at the original operands:
what a pair of runs of shapes M and S leaves of a body element. -/
theorem carryPair_body {s t u : State} {m vd vs2 vs1 : RegNum} {g : Nat → Bool}
    {f : (n : Nat) → BitVec n → BitVec n → Bool → BitVec n} (hlaunch : s.launchOk = true)
    (halign : multipleOf s.lmul8 vd = true) (hm : m ≠ 0) (hvd : disjoint m 8 vd s.lmul8 = true)
    (hvs2 : disjoint m 8 vs2 s.lmul8 = true) (hvs1 : disjoint m 8 vs1 s.lmul8 = true) (hframe : Frame s t)
    (hmask : MaskDest s t m (fun _ => true) g)
    (hdata : DataDest t u vd t.sew t.lmul8 (fun _ => true)
      fun e => f t.sew (t.velem vs2.toNat t.sew e) (t.velem vs1.toNat t.sew e) (t.vmask 0 e))
    {e : Nat} (hstart : s.vstart.toNat ≤ e) (he : e < s.vl.toNat) :
    u.vmask m.toNat e = g e ∧
      u.velem vd.toNat s.sew e = f s.sew (s.velem vs2.toNat s.sew e) (s.velem vs1.toNat s.sew e) (s.vmask 0 e) := by
  obtain ⟨-, hd, -, hvl⟩ := single_fits s hlaunch vd halign
  have hbit : u.vmask m.toNat e = t.vmask m.toNat e := hdata.vmask_disjoint (by rwa [hframe.lmul8])
  have hvalue := hdata.onActive e (by simp [hframe.vstart]) (by rwa [hframe.vl]) rfl
  have ha : t.velem vs2.toNat s.sew e = s.velem vs2.toNat s.sew e :=
    hmask.velem_disjoint hframe hvs2 hd (he.trans_le hvl)
  have hb : t.velem vs1.toNat s.sew e = s.velem vs1.toNat s.sew e :=
    hmask.velem_disjoint hframe hvs1 hd (he.trans_le hvl)
  have hc : t.vmask 0 e = s.vmask 0 e := hmask.vmask_ne hm.symm
  rw [hframe.sew, ha, hb, hc] at hvalue
  exact ⟨hbit.trans (hmask.onActive e hstart he rfl), hvalue⟩

/-! ### The statement -/

/-- Settles O59: of each body element the pair leaves the carry-out, or borrow-out, and the truncated sum, or
difference, of the original operands, which `full_sum` and `full_difference` put together. -/
theorem carryPairComputesTheFullSumAndDifference : Obligations.CarryPairComputesTheFullSumAndDifference := by
  obtain ⟨hvmadc, -, -, -, -, -, hvmsbc, -⟩ := carryOutBorrowOutResults
  obtain ⟨hvadc, -, -, hvsbc, -⟩ := addWithCarrySubtractWithBorrowResults
  intro s m vd vs2 vs1 hr hm hvd hvs2 hvs1
  obtain ⟨-, -, hlaunch, -⟩ := (ready_iff s).mp hr
  refine ⟨fun hl₁ hl₂ => ?sum, fun hl₁ hl₂ => ?difference⟩
  case sum =>
    obtain ⟨t, hexec₁, hframe, hmask⟩ := hvmadc s m vs2 vs1 hr hl₁
    obtain ⟨u, hexec₂, -, hdata⟩ := hvadc t vd vs2 vs1 (hframe.ready hr) (by rwa [hframe.legal])
    have halign : multipleOf s.lmul8 vd = true := legal_single s _ hl₂ (.inl rfl)
    refine ⟨t, u, hexec₁, hexec₂, fun e hstart he => ?_⟩
    obtain ⟨hcarry, hsum⟩ := carryPair_body
      (f := fun n a b c => a + b + (BitVec.ofBool c).setWidth n)
      hlaunch halign hm hvd hvs2 hvs1 hframe hmask hdata hstart he
    rw [hcarry, hsum]
    exact full_sum _ _ _ _
  case difference =>
    obtain ⟨t, hexec₁, hframe, hmask⟩ := hvmsbc s m vs2 vs1 hr hl₁
    obtain ⟨u, hexec₂, -, hdata⟩ := hvsbc t vd vs2 vs1 (hframe.ready hr) (by rwa [hframe.legal])
    have halign : multipleOf s.lmul8 vd = true := legal_single s _ hl₂ (.inl rfl)
    refine ⟨t, u, hexec₁, hexec₂, fun e hstart he => ?_⟩
    obtain ⟨hborrow, hdifference⟩ := carryPair_body
      (f := fun n a b c => a - b - (BitVec.ofBool c).setWidth n)
      hlaunch halign hm hvd hvs2 hvs1 hframe hmask hdata hstart he
    rw [hborrow, hdifference]
    exact full_difference _ _ _ _

end Sys2Proof.Machine
end
